-- ==== Sys2Proof/Word.lean ====
section
/-!
DEFINITION. The units of data of the Deplix 2208 (00_scope.md, "Units of data"): bytes, lines, line addresses and tags.
-/

namespace Sys2Proof

/-- One byte. -/
abbrev Byte := BitVec 8

/-- A line: 16 bytes. Byte `n` (the byte at the line address plus `n`) is bits `8 n` to `8 n + 7`, so that a
little-endian field or lane (R35, R175) is a contiguous run of bits. This is UREQ_DATA[127:0] (Table 13-9). -/
abbrev Line := BitVec 128

/-- The 16 byte enables of a write; bit `n` enables byte `n` (R1). -/
abbrev Enables := BitVec 16

/-- A line address without its four zero bits: UREQ_ADDR[31:4] (Table 13-9). -/
abbrev LineAddr := BitVec 28

/-- A byte address in the 32-bit space. -/
abbrev ByteAddr := BitVec 32

/-- An upstream tag, 0–63 (R1). -/
abbrev UpTag := BitVec 6

/-- A downstream tag, 0–31 (R18). -/
abbrev DownTag := Fin 32

/-- A window number, 0–15 (R32). -/
abbrev WindowNo := Fin 16

/-- An event input, EV0 to EV3 (R119). -/
abbrev InputNo := Fin 4

/-- The line that holds a byte address: the low four bits are ignored (R1, R175). -/
def lineOf (a : ByteAddr) : LineAddr := a.extractLsb' 4 28

/-- The byte address of a line: its low four bits are zero. -/
def byteAddr (l : LineAddr) : ByteAddr := l ++ 0#4

end Sys2Proof
end

