-- ==== Sys2Proof/Config.lean ====
section
/-!
DEFINITION. The fixed numbers of the part (Table 0-3). The part has one configuration and the manual leaves no
instruction's result open, so there is no free value here.
-/

namespace Sys2Proof.Config

/-- Places in the pass-through queue (R21). -/
abbrev passQueuePlaces : Nat := 8
/-- Places in an entry's item queue (R73). -/
abbrev itemQueuePlaces : Nat := 8
/-- Lines the Suspect Line List holds (R99). -/
abbrev suspectPlaces : Nat := 8
/-- Requests the Sweep Queue holds (R133). -/
abbrev sweepQueuePlaces : Nat := 16
/-- Records the log queue holds (R162). -/
abbrev logQueuePlaces : Nat := 4
/-- Record lines of the log region (R164). -/
abbrev logLines : Nat := 32
/-- Lines of the Control Area (R148). -/
abbrev controlLines : Nat := 42
/-- The greatest window length in lines (R41). -/
abbrev maxWindowLength : Nat := 4096
/-- Lines of the 4 GiB address space: the last one is FFFF_FFF0h (R33). -/
abbrev spaceLines : Nat := 2 ^ 28
/-- The greatest pending count of an event input (R122). -/
abbrev maxPending : Nat := 15
/-- The tick divider after a reset (R168). -/
abbrev defaultDivider : Nat := 1000
/-- The response limit after a reset, in ticks (R168). -/
abbrev defaultResponseLimit : Nat := 50

end Sys2Proof.Config
end

