-- ==== Sys2Proof/Syntax.lean ====
section
/-!
DEFINITION. The commands of the block: one constructor for each row of spec/opcode_table.json, with what the outside
brings at that step.
-/

namespace Sys2Proof

/-- What a line request asks for (R1, R18): the whole line, or a write of the enabled bytes. -/
inductive ReqBody where
  | read
  | write (enables : Enables) (data : Line)
  deriving DecidableEq, Repr

/-- An upstream request as the interconnect presents it (R1). The low four address bits are ignored. -/
structure UpRequest where
  tag  : UpTag
  addr : ByteAddr
  body : ReqBody
  deriving DecidableEq, Repr

/-- A write of the command line beside its code byte (Table 13-3): the software fields of bytes 1–7, and the enables
and data of bytes 8–15, which the bridge ignores (R13). Bytes 0–7 are all enabled. -/
structure CommandWrite where
  window   : Byte
  action   : Byte
  swTag    : Byte
  argument : ByteAddr
  highEnables : BitVec 8
  highData    : BitVec 64
  deriving DecidableEq, Repr

/-- A response on the DRSP signals: tag, two-bit result field and data (R18, R176). -/
structure DownResponse where
  tag  : DownTag
  code : BitVec 2
  data : Line
  deriving DecidableEq, Repr

/-- The commands, one for each row of spec/opcode_table.json. -/
inductive Instr where
  -- resets and part states
  | powerOnReset
  | warmReset
  | resetRelease (sel : BitVec 3)
  | bootSettingsApplied
  | statusCopyFormed
  | bootEnd
  | loadingComplete
  | drainingEnd
  -- time and the event inputs
  | tickIncrement (levels : BitVec 4)
  | acceptedChange (input : InputNo)
  | eventStuck (input : InputNo)
  | chordFires
  | intervalExpiry (window : WindowNo)
  | requestExpiry (tag : DownTag)
  -- upstream requests
  | passThroughRequest (req : UpRequest)
  | windowWrite (tag : UpTag) (addr : ByteAddr) (enables : Enables) (data : Line)
  | windowRead (tag : UpTag) (addr : ByteAddr)
  | statusLineRead (tag : UpTag)
  | protectWrite (tag : UpTag) (enables : Enables) (data : Line)
  | liveSettingWrite (tag : UpTag) (line : Fin 42) (enables : Enables) (data : Line)
  | controlAreaLineWrite (tag : UpTag) (line : Fin 42) (enables : Enables) (data : Line)
  -- writes to the command line
  | arm (tag : UpTag) (cmd : CommandWrite)
  | disarm (tag : UpTag) (cmd : CommandWrite)
  | rearm (tag : UpTag) (cmd : CommandWrite)
  | sweep (tag : UpTag) (cmd : CommandWrite)
  | release (tag : UpTag) (cmd : CommandWrite)
  | logReset (tag : UpTag) (cmd : CommandWrite)
  | badCommand (tag : UpTag) (code : Byte) (cmd : CommandWrite)
  -- the allocation arbiter
  | headReexamination
  | eventClaimTaken
  | sweepClaimTaken
  | releaseClaimTaken
  -- the Sweep Engine
  | sweepStart
  | closingHeaderProduced
  | sweepClose
  | abandoningHeaderProduced
  | sweepAbandoned
  -- the ports
  | portGrant
  | downstreamRequestTaken
  | responseSent
  | passResponse (rsp : DownResponse)
  | fetchResponse (rsp : DownResponse)
  | writebackResponse (rsp : DownResponse)
  | shadowResponse (rsp : DownResponse)
  | logWriteResponse (rsp : DownResponse)
  | setupResponse (rsp : DownResponse)
  | lateResponse (rsp : DownResponse)
  -- upstream requests that are held or refused
  | headRequestHeld (req : UpRequest)
  | partOwnedWrite (tag : UpTag) (addr : ByteAddr) (enables : Enables) (data : Line)
  | commandWriteRefused (tag : UpTag) (enables : Enables) (data : Line)
  deriving DecidableEq, Repr

end Sys2Proof
end

