-- ==== Sys2Proof/WellFormed.lean ====
section
/-!
DEFINITION. When a command's operands name what its row stands for. The meanings do not rest on these checks: a request
is classified by its address and code whichever row brought it (notes/assumptions/3.md).
-/

namespace Sys2Proof

/-- A code byte that names a command (Table 13-1). -/
def namesCommand (code : Byte) : Bool := decide (1 ≤ code.toNat ∧ code.toNat ≤ 6)

/-- The row's own operand conditions: a live-setting line is 4, 5 or 6 (R150); another Control Area line that only
memory takes is 3 or 7–41 (Table 10-1); the code of BAD_COMMAND names no command (R154). -/
def Instr.wf : Instr → Bool
  | .liveSettingWrite _ k _ _ => decide (4 ≤ k.val ∧ k.val ≤ 6)
  | .controlAreaLineWrite _ k _ _ => decide (k.val = 3 ∨ 7 ≤ k.val)
  | .badCommand _ code _ => !namesCommand code
  | _ => true

end Sys2Proof
end

