-- ==== Sys2Proof/Decode.lean ====
section
/-!
DEFINITION. The commands that words spell. No row of spec/opcode_table.json gives bits (its "fields" are empty), so no
word spells a command.
-/

namespace Sys2Proof

/-- The command an opcode-table word spells: none, since the table gives no row any bits. -/
def decodeTableWord (_nbits _w : Nat) : Option Instr := none

end Sys2Proof
end

