-- ==== Sys2Proof/Machine/State.lean ====
section
/-!
DEFINITION. The state of the bridge, as plain data, and the state right after a power-on reset. Every field is named by
a rule of spec/; INVENTORY.md lists them.
-/

namespace Sys2Proof.Machine

/-! ### Names of settings and states (Table 13-1) -/

/-- Part states (R167). -/
inductive PartState where
  | boot | pass | loading | active | draining
  deriving DecidableEq, Repr

/-- How far BOOT has come: held in reset (R168), setup reads under way (R170 steps 1–2), boot settings applied
(step 3), pinned entries formed (steps 4–5, and from then on until the next reset). -/
inductive BootStage where
  | inReset | reading | applied | formed
  deriving DecidableEq, Repr

/-- The kind of reset that began BOOT (R109, R168). -/
inductive ResetKind where
  | powerOn | warm
  deriving DecidableEq, Repr

/-- Check polynomials (Table 6-1). -/
inductive Polynomial where
  | a | b
  deriving DecidableEq, Repr

/-- Port Arbiter orders (Table 2-2). -/
inductive PortOrder where
  | a | b
  deriving DecidableEq, Repr

/-- Start modes (R171). -/
inductive StartMode where
  | wait | armAtBoot | resume
  deriving DecidableEq, Repr

/-- Log styles (R162). -/
inductive LogStyle where
  | off | wrap | keepFirst
  deriving DecidableEq, Repr

/-- Window functions (Table 3-1). -/
inductive WindowFunction where
  | accumulate | weighted | extreme | difference
  deriving DecidableEq, Repr

/-- Lane formats (Table 3-2). -/
inductive Format where
  | u16 | s16 | u32
  deriving DecidableEq, Repr

/-- Read actions (R63, R64). -/
inductive ReadAction where
  | plain | clear
  deriving DecidableEq, Repr

/-- Crossing modes (R114). -/
inductive CrossingMode where
  | off | first | each
  deriving DecidableEq, Repr

/-- Sweep actions (R132). An interval or chord action is an optional one, NONE being `none`. -/
inductive SweepAction where
  | copy | copyClear | clear
  deriving DecidableEq, Repr

/-- Sweep sources (R132). -/
inductive SweepSource where
  | command | interval | chord | arm
  deriving DecidableEq, Repr

/-- Edges a binding counts (Table 8-1). -/
inductive Edge where
  | rising | falling | both
  deriving DecidableEq, Repr

/-- Stuck states of an input (Table 8-3). -/
inductive StuckState where
  | inactive | pressed | stuck
  deriving DecidableEq, Repr

/-- Command states (R153). -/
inductive CommandState where
  | idle | running | done
  deriving DecidableEq, Repr

/-- Command results (Table 10-3). -/
inductive CommandResult where
  | none | ok | setupWarn | wrongState | badWindow | noWindow | badAction | notSweepable | overrun | notFound
  | memoryFault | badCommand
  deriving DecidableEq, Repr

/-- Incident kinds (Table 11-1). -/
inductive IncidentKind where
  | setupInvalid | checkMismatch | suspectFull | memoryTimeout | memoryFault | crossing | eventLost | eventStuck
  | sweepOverrun | sweepAbandoned | refused | state
  deriving DecidableEq, Repr

/-- Refusal reasons (Table 13-1). -/
inductive Reason where
  | tagInUse | protect | partOwned | laneSplit | checkLane | oddLane | suspect | commandBusy | commandShort
  deriving DecidableEq, Repr

/-- Part flags, in the order of Table 7-1. -/
inductive PartFlag where
  | setupFault | checkFault | suspectFull | memoryTimeout | memoryFault | eventLost | eventStuck | sweepOverrun
  | sweepFault | logFull | logDropped | commandDone | refusal
  deriving DecidableEq, Repr

/-- Results of a response on either port (R1, R18). -/
inductive Result where
  | okay | refused | fault
  deriving DecidableEq, Repr

/-! ### Settings -/

/-- The boot settings in force (Table 10-2), with what a reset puts in their place (R168). The log style and base are
the Incident Log Unit's own fields. -/
structure BootSettings where
  protect       : Bool
  startMode     : StartMode
  keepStatus    : Bool
  portOrder     : PortOrder
  polynomial    : Polynomial
  divider       : Nat
  responseLimit : Nat
  deriving DecidableEq, Repr

/-- The Control Unit's copies of Control Area lines 4, 5 and 6 (R150). -/
structure LiveCopies where
  masks         : Line
  intervalsLow  : Line
  intervalsHigh : Line
  deriving DecidableEq, Repr

/-- One setup read of a Control Area line (R23, R29). -/
inductive SetupSlot where
  | idle
  | waiting
  | outstanding
  | taken (line : Line)
  | failed
  deriving DecidableEq, Repr

/-- The fields a window record takes from its descriptor (Table 3-1, Table 13-6). Weight `i` is byte `i` of
`weights`. -/
structure WindowRecord where
  enable         : Bool
  function       : WindowFunction
  format         : Format
  check          : Bool
  readAction     : ReadAction
  base           : LineAddr
  length         : Nat
  shadowBase     : LineAddr
  crossingMode   : CrossingMode
  threshold      : BitVec 32
  weights        : BitVec 64
  clearAtArm     : Bool
  intervalAction : Option SweepAction
  chordAction    : Option SweepAction
  deriving DecidableEq, Repr

/-- A place of the Window Table (R32). The valid flag is set exactly when the record is loaded (R44, R46). -/
structure WindowSlot where
  record   : Option WindowRecord
  armed    : Bool
  sequence : BitVec 16
  deriving DecidableEq, Repr

/-- A binding in force (Table 8-1), with the window of its target line (R129). -/
structure Binding where
  edge      : Edge
  debounce  : BitVec 3
  target    : LineAddr
  lane      : BitVec 3
  increment : Byte
  window    : WindowNo
  deriving DecidableEq, Repr

/-- The chord setting in force (Table 8-2). Bit `n` of `members` is input `n`. -/
structure ChordSetting where
  members    : BitVec 4
  holdTime   : Nat
  stuckLimit : Nat
  deriving DecidableEq, Repr

/-! ### Items, entries and requests -/

/-- What produced an UPDATE item (R69). -/
inductive UpdateOrigin where
  | up | event | cmd
  deriving DecidableEq, Repr

/-- An item of work for one line (R69). Bit `i` of `lanes` enables lane `i`. -/
inductive Item where
  | update (origin : UpdateOrigin) (data : Line) (lanes : BitVec 8)
  | read (tag : UpTag)
  | sweep (action : SweepAction) (sequence : BitVec 16) (index : Nat)
  deriving DecidableEq, Repr

/-- The line a general entry holds and its window (R69). -/
structure Hold where
  line   : LineAddr
  window : WindowNo
  deriving DecidableEq, Repr

/-- A general entry, with the parts Table 5-1 gives each of its states. `mark` is the release mark; re-dirty can be set
in WRITING only (R74, R79, R80). -/
inductive Entry where
  | free
  | fetchWait (hold : Hold) (queue : List Item)
  | fetching (hold : Hold) (queue : List Item) (tag : DownTag)
  | wbWait (hold : Hold) (copy : Line) (image : Option Line) (mark : Bool)
  | writing (hold : Hold) (copy : Line) (image : Option Line) (mark : Bool) (redirty : Bool) (sent : Line)
      (tag : DownTag)
  deriving DecidableEq, Repr

/-- A pinned entry (R86, R87): empty between a reset and its forming, then HELD, WB_WAIT or WRITING. Its working copy is
a view of the fields it holds. -/
inductive PinnedEntry where
  | empty
  | held (image : Line)
  | wbWait (image : Option Line)
  | writing (image : Option Line) (redirty : Bool) (sent : Line) (tag : DownTag)
  deriving DecidableEq, Repr

/-- An entry of the Open Line Table as a write-back names it: entry 0, entry 1, or a general entry (number `i + 2`). -/
inductive EntryRef where
  | status
  | command
  | general (i : Fin 12)
  deriving DecidableEq, Repr

/-- What a shadow write writes (R19, R134): the opening header, a line, or the closing or abandoning header. -/
inductive ShadowTarget where
  | opening
  | line (index : Nat)
  | ending
  deriving DecidableEq, Repr

/-- What a downstream request was issued for, with its reference (R19). -/
inductive Origin where
  | pass (tag : UpTag)
  | fetch (entry : Fin 12)
  | writeback (entry : EntryRef)
  | shadow (window : WindowNo) (target : ShadowTarget)
  | log (sequence : BitVec 16)
  | setup (line : Fin 42)
  deriving DecidableEq, Repr

/-- The record of an OUTSTANDING tag (R19). `expired` is the model's mark that the comparison of R26 at the last tick
increment found the request expired; its expiry is then the next thing to be taken (notes/assumptions/7.md). -/
structure TagRecord where
  origin    : Origin
  isWrite   : Bool
  line      : LineAddr
  issueTick : BitVec 32
  expired   : Bool
  deriving DecidableEq, Repr

/-- A downstream tag (R19). -/
inductive TagState where
  | free
  | outstanding (rec : TagRecord)
  | retired
  deriving DecidableEq, Repr

/-- An accepted pass-through request (R16, R21). -/
structure PassRequest where
  tag  : UpTag
  line : LineAddr
  body : ReqBody
  deriving DecidableEq, Repr

/-- A granted downstream request, presented on the DREQ signals until memory takes it (R18, R176). -/
structure DownRequest where
  tag  : DownTag
  line : LineAddr
  body : ReqBody
  deriving DecidableEq, Repr

/-- An upstream response (R1). Data goes with a READ answered OKAY. -/
structure UpResponse where
  tag    : UpTag
  result : Result
  data   : Option Line
  deriving DecidableEq, Repr

/-- What the URSP signals carry: the tag, the two-bit result (R176), and the data of a READ answered OKAY. -/
structure UrspSignals where
  tag    : UpTag
  result : BitVec 2
  data   : Option Line
  deriving DecidableEq, Repr

/-! ### Sweep Engine -/

/-- A sweep request (R132). -/
structure SweepRequest where
  window : WindowNo
  action : SweepAction
  source : SweepSource
  deriving DecidableEq, Repr

/-- Engine states other than IDLE (R134). -/
inductive SweepPhase where
  | opening | lines | closing
  deriving DecidableEq, Repr

/-- The sweep's item in flight (R134). -/
inductive InFlight where
  | none | claimWaiting | accepted
  deriving DecidableEq, Repr

/-- A shadow write not yet granted a tag (R23, R134). -/
structure ShadowWrite where
  target : ShadowTarget
  line   : LineAddr
  data   : Line
  deriving DecidableEq, Repr

/-- How far the closing or abandoning header has come (R141, R146). -/
inductive EndHeader where
  | notProduced
  | produced
  | answered (failed : Bool)
  deriving DecidableEq, Repr

/-- The current sweep record (R134). `waiting` holds the shadow writes without a tag, `issued` those outstanding, each in
the order produced. -/
structure Sweep where
  phase        : SweepPhase
  window       : WindowNo
  action       : SweepAction
  source       : SweepSource
  sequence     : BitVec 16
  startTick    : BitVec 32
  nextIndex    : Nat
  inFlight     : InFlight
  copied       : Nat
  failed       : Nat
  headerFailed : Bool
  waiting      : List ShadowWrite
  issued       : List (DownTag × ShadowTarget)
  endHeader    : EndHeader
  abandoning   : Bool
  deriving DecidableEq, Repr

/-! ### Event Input Unit, flags, command line and log -/

/-- The counts and stuck state of one input (R119). -/
structure InputState where
  debounceCount : Nat
  pending       : Nat
  stuck         : StuckState
  stuckTimer    : Nat
  deriving DecidableEq, Repr

/-- The read-clear flags of the status line (Table 13-2). -/
structure StatusFlags where
  window    : BitVec 16
  sweepDone : BitVec 16
  part      : BitVec 13
  deriving DecidableEq, Repr

/-- The command line (Table 13-3). -/
structure CommandLine where
  code     : Byte
  window   : Byte
  action   : Byte
  swTag    : Byte
  argument : ByteAddr
  result   : CommandResult
  state    : CommandState
  count    : BitVec 16
  deriving DecidableEq, Repr

/-- The five fields an incident carries (R161). The window field is FFh where it is `none`. -/
structure Incident where
  kind   : IncidentKind
  window : Option WindowNo
  tick   : BitVec 32
  addr   : ByteAddr
  detail : BitVec 32
  deriving DecidableEq, Repr

/-- A place of the log queue: an incident kept in BOOT without a number (R162), or a record (R163). -/
inductive LogEntry where
  | kept (incident : Incident)
  | record (sequence : BitVec 16) (incident : Incident)
  deriving DecidableEq, Repr

/-! ### The machine -/

/-- The state of the bridge. -/
structure State where
  /-- Commands not yet taken, first in, first out. -/
  pending : List Instr
  -- reset and pins (R168, R176)
  bootStage : BootStage
  resetKind : ResetKind
  setupSel  : BitVec 3
  evLevels  : BitVec 4
  ursp      : Option UrspSignals
  alert     : Bool
  -- Time Base (R169)
  tick   : BitVec 32
  cycles : Nat
  -- Control Unit
  partState     : PartState
  wasActive     : Bool
  fellToDefault : Bool
  boot          : BootSettings
  live          : LiveCopies
  setup         : Vector SetupSlot 42
  releaseClaim  : Option LineAddr
  -- the status line and the command line: pinned entries 0 and 1 (R86, R108, R153)
  flags          : StatusFlags
  statusEntry    : PinnedEntry
  statusWritten  : Bool
  command        : CommandLine
  commandEntry   : PinnedEntry
  commandWritten : Bool
  -- Upstream Port (R1, R2)
  outstanding : List UpTag
  head        : Option UpRequest
  responses   : List UpResponse
  -- Downstream Port (R19, R21, R176)
  tags      : Vector TagState 32
  passQueue : List PassRequest
  dreq      : List DownRequest
  -- Window Table (R32), general entries (R69), Suspect Line List (R99)
  windows  : Vector WindowSlot 16
  entries  : Vector Entry 12
  suspects : List LineAddr
  -- Sweep Engine (R133, R134, R143)
  sweepQueue  : List SweepRequest
  engine      : Option Sweep
  intervals   : Vector Nat 16
  /-- The model's marks: counter `n` reached 0 at the last tick increment and its expiry has not been taken. -/
  intervalDue : BitVec 16
  -- Event Input Unit (R119)
  bindings   : Vector (Option Binding) 4
  chord      : ChordSetting
  levels     : Option (BitVec 4)
  inputs     : Vector InputState 4
  chordTimer : Nat
  chordFired : Bool
  servicePos : InputNo
  eventClaim : Option InputNo
  /-- The model's marks: the inputs whose pending count left 0 at the present sample (notes/assumptions/7.md). -/
  newCounts  : BitVec 4
  -- Incident Log Unit (R162)
  logStyle : LogStyle
  logBase  : LineAddr
  logNext  : BitVec 16
  logHeld  : Nat
  logQueue : List LogEntry
  deriving DecidableEq, Repr

/-- The reasons a command could stop the machine with a fault: none. The bridge reports every error through its flags,
incidents, responses and results, and goes on. Nobody raises one (safe). -/
inductive Fault where
  deriving DecidableEq, Repr

/-- The reasons a command is refused by the model. -/
inductive Refusal where
  /-- Raised by an arm of `exec` whose command has no meaning yet (safe: nothing is claimed of it). No arm does. -/
  | notModelled (mnemonic : String)
  deriving DecidableEq, Repr

/-- What a reset puts in place of the boot settings (R168); start mode and keep-status are notes/assumptions/16.md. -/
def BootSettings.reset : BootSettings where
  protect := false
  startMode := .wait
  keepStatus := false
  portOrder := .a
  polynomial := .a
  divider := Config.defaultDivider
  responseLimit := Config.defaultResponseLimit

/-- The empty place of the Window Table (R45). -/
def WindowSlot.empty : WindowSlot where
  record := none
  armed := false
  sequence := 0

/-- An input as a reset, an arming and the end of ACTIVE leave it (R119, R131). -/
def InputState.reset : InputState where
  debounceCount := 0
  pending := 0
  stuck := .inactive
  stuckTimer := 0

/-- The command line as BOOT forms it (R153). -/
def CommandLine.reset : CommandLine where
  code := 0
  window := 0
  action := 0
  swTag := 0
  argument := 0
  result := .none
  state := .idle
  count := 0

/-- The chord setting with no member and stuck detection off (R119, R130). -/
def ChordSetting.none : ChordSetting where
  members := 0
  holdTime := 0
  stuckLimit := 0

/-- The bridge right after a power-on reset, RESET_N (or the power detector) still holding it (R168); RESET_RELEASE
begins BOOT. Values the manual does not state are notes/assumptions/16.md. -/
def State.reset : State where
  pending := []
  bootStage := .inReset
  resetKind := .powerOn
  setupSel := 0
  evLevels := 0
  ursp := none
  alert := false
  tick := 0
  cycles := 0
  partState := .boot
  wasActive := false
  fellToDefault := false
  boot := .reset
  live := ⟨0, 0, 0⟩
  setup := Vector.replicate 42 .idle
  releaseClaim := none
  flags := ⟨0, 0, 0⟩
  statusEntry := .empty
  statusWritten := false
  command := .reset
  commandEntry := .empty
  commandWritten := false
  outstanding := []
  head := none
  responses := []
  tags := Vector.replicate 32 .free
  passQueue := []
  dreq := []
  windows := Vector.replicate 16 .empty
  entries := Vector.replicate 12 .free
  suspects := []
  sweepQueue := []
  engine := none
  intervals := Vector.replicate 16 0
  intervalDue := 0
  bindings := Vector.replicate 4 none
  chord := .none
  levels := none
  inputs := Vector.replicate 4 .reset
  chordTimer := 0
  chordFired := false
  servicePos := 0
  eventClaim := none
  newCounts := 0
  logStyle := .off
  logBase := 0
  logNext := 0
  logHeld := 0
  logQueue := []

end Sys2Proof.Machine
end

