-- ==== Sys2Proof/Machine/Operands.lean ====
section
/-!
DEFINITION. The parts of a line: bytes, fields, lanes, held bytes and the check value (R35 to R39, R78, R94 to R96,
R175).
-/

namespace Sys2Proof.Machine

/-! ### Bytes and fields -/

/-- Byte `n` of a line. -/
def byteAt (l : Line) (n : Nat) : Byte := l.extractLsb' (8 * n) 8

/-- The `w`-bit little-endian field that begins at byte `n` (R175). -/
def fieldAt (l : Line) (n w : Nat) : BitVec w := l.extractLsb' (8 * n) w

/-- A line with the `w` bits from bit `pos` on replaced. -/
def putBits (pos : Nat) {w : Nat} (v : BitVec w) (l : Line) : Line :=
  (l &&& ~~~((BitVec.allOnes w).setWidth 128 <<< pos)) ||| (v.setWidth 128 <<< pos)

/-- The line with the enabled bytes taken from `data`, as a write with these enables leaves it (R150). -/
def mergeBytes (enables : Enables) (data old : Line) : Line :=
  (List.range 16).foldl
    (fun acc n => if enables.getLsbD n then putBits (8 * n) (byteAt data n) acc else acc) old

/-! ### Lanes (R35) -/

/-- A lane's width in bits. -/
def Format.width : Format → Nat
  | .u16 => 16
  | .s16 => 16
  | .u32 => 32

/-- The number of lanes in a line. -/
def Format.lanes : Format → Nat
  | .u16 => 8
  | .s16 => 8
  | .u32 => 4

/-- Whether a lane's value is signed. -/
def Format.signed : Format → Bool
  | .u16 => false
  | .s16 => true
  | .u32 => false

/-- The pattern of lane `i`. -/
def laneBits (w i : Nat) (l : Line) : BitVec w := l.extractLsb' (i * w) w

/-- The number a pattern stands for. -/
def patternValue {w : Nat} (signed : Bool) (v : BitVec w) : Int := if signed then v.toInt else (v.toNat : Int)

/-- The value of lane `i`. -/
def readLane (signed : Bool) (w i : Nat) (l : Line) : Int := patternValue signed (laneBits w i l)

/-- The line with lane `i` holding the pattern of `v` (R51: negative values in two's complement). -/
def writeLane (w i : Nat) (v : Int) (l : Line) : Line := putBits (i * w) (BitVec.ofInt w v) l

/-- The least value of a lane (Table 4-1). -/
def laneMin (signed : Bool) (w : Nat) : Int := if signed then -(2 ^ (w - 1) : Nat) else 0

/-- The greatest value of a lane (Table 4-1). -/
def laneMax (signed : Bool) (w : Nat) : Int :=
  if signed then ((2 ^ (w - 1) : Nat) : Int) - 1 else ((2 ^ w : Nat) : Int) - 1

/-- Saturation to a lane's range (R51). -/
def saturate (signed : Bool) (w : Nat) (v : Int) : Int := max (laneMin signed w) (min (laneMax signed w) v)

/-- How many data lanes a line of the window has; they are lanes 0 to this number less one (Table 3-3). -/
def WindowRecord.dataLanes (r : WindowRecord) : Nat :=
  match r.function with
  | .extreme => 7
  | _ => if r.check then r.format.lanes - 1 else r.format.lanes

/-! ### Cleared values (R39) -/

/-- The cleared value of data lane `i` (Table 3-5). -/
def WindowRecord.clearedValue (r : WindowRecord) (i : Nat) : Int :=
  match r.function, i with
  | .extreme, 0 => laneMax r.format.signed 16
  | .extreme, 1 => 65535
  | .extreme, 2 => laneMin r.format.signed 16
  | .extreme, 3 => 65535
  | _, _ => 0

/-- Clearing in place: every data lane takes its cleared value, the held bytes stay (R67). -/
def WindowRecord.clearInPlace (r : WindowRecord) (l : Line) : Line :=
  (List.range r.dataLanes).foldl (fun acc i => writeLane r.format.width i (r.clearedValue i) acc) l

/-- The cleared line: data lanes cleared, held bytes zero (R39). -/
def WindowRecord.clearedLine (r : WindowRecord) : Line := r.clearInPlace 0

/-! ### The check value (R94) -/

/-- The polynomial's constant (Table 6-1). -/
def Polynomial.constant : Polynomial → BitVec 16
  | .a => 0x8005#16
  | .b => 0x1021#16

/-- One step of the register with one data bit. -/
def crcBit (p : Polynomial) (reg : BitVec 16) (bit : Bool) : BitVec 16 :=
  if reg.msb != bit then (reg <<< 1) ^^^ p.constant else reg <<< 1

/-- The eight bits of a byte, most significant first. -/
def crcByte (p : Polynomial) (reg : BitVec 16) (b : Byte) : BitVec 16 :=
  [7, 6, 5, 4, 3, 2, 1, 0].foldl (fun acc i => crcBit p acc (b.getLsbD i)) reg

/-- The check value of bytes 0–13. -/
def checkValue (p : Polynomial) (l : Line) : BitVec 16 :=
  (List.range 14).foldl (fun acc n => crcByte p acc (byteAt l n)) 0xFFFF#16

/-- Whether bytes 14–15 hold the check value of bytes 0–13 (R97). -/
def checkPasses (p : Polynomial) (l : Line) : Bool := fieldAt l 14 16 == checkValue p l

/-! ### Held bytes (R37) -/

/-- The line with the window's held zero bytes set to zero: bytes 12–13 of a check-on U32 line, lane 7 of a check-off
EXTREME line. -/
def WindowRecord.zeroHeld (r : WindowRecord) (l : Line) : Line :=
  match r.function, r.format, r.check with
  | .extreme, _, false => putBits 112 (0#16) l
  | .extreme, _, true => l
  | _, .u32, true => putBits 96 (0#16) l
  | _, _, _ => l

/-- A line of the window as the bridge sends it out, to memory, to the shadow region or to a reader: zero bytes zero
and, with check on, bytes 14–15 the check value of bytes 0–13 (R37, R65, R79, R96). -/
def WindowRecord.fillHeld (r : WindowRecord) (p : Polynomial) (l : Line) : Line :=
  let z := r.zeroHeld l
  if r.check then putBits 112 (checkValue p z) z else z

/-- Whether a working copy differs from its last-written image, bytes 14–15 left out with check on (R78). -/
def WindowRecord.differs (r : WindowRecord) (copy : Line) : Option Line → Bool
  | none => true
  | some image => if r.check then copy.extractLsb' 0 112 != image.extractLsb' 0 112 else copy != image

/-! ### Lane enables of a write (R9, R11) -/

/-- The byte enables that lane `i` covers. -/
def laneEnables (w i : Nat) (e : Enables) : BitVec (w / 8) := e.extractLsb' (i * (w / 8)) (w / 8)

/-- One lane enable for each lane whose bytes are all enabled (R9). -/
def Format.laneSet (f : Format) (e : Enables) : BitVec 8 :=
  (List.range f.lanes).foldl
    (fun acc i => if laneEnables f.width i e = BitVec.allOnes (f.width / 8) then acc ||| (1#8 <<< i) else acc) 0

/-- LANE_SPLIT: some lane has some of its bytes enabled and not all (R11). -/
def Format.splits (f : Format) (e : Enables) : Bool :=
  (List.range f.lanes).any fun i =>
    laneEnables f.width i e != 0 && laneEnables f.width i e != BitVec.allOnes (f.width / 8)

/-- CHECK_LANE: a check byte, or a held zero byte of a check-on U32 line, is enabled; not tested for EXTREME (R11). -/
def WindowRecord.touchesCheck (r : WindowRecord) (e : Enables) : Bool :=
  r.check && r.function != .extreme
    && (e.extractLsb' 14 2 != 0 || (r.format == .u32 && e.extractLsb' 12 2 != 0))

/-- ODD_LANE: in a DIFFERENCE window, an odd lane is enabled, or an even lane whose odd partner is no data lane
(R11). -/
def WindowRecord.touchesOdd (r : WindowRecord) (lanes : BitVec 8) : Bool :=
  r.function == .difference
    && (List.range 8).any fun i => lanes.getLsbD i && (i % 2 == 1 || decide (r.dataLanes ≤ i + 1))

end Sys2Proof.Machine
end

