-- ==== Sys2Proof/Machine/Formats.lean ====
section
/-!
DEFINITION. The codes of enumerated values (Table 13-1) and the byte layouts of the lines the bridge reads and writes
(chapter 13, R175).
-/

namespace Sys2Proof.Machine

/-! ### Codes (Table 13-1) -/

def PartState.code : PartState → Byte
  | .boot => 0x00
  | .pass => 0x01
  | .loading => 0x02
  | .active => 0x03
  | .draining => 0x04

def StartMode.ofCode (b : Byte) : Option StartMode :=
  if b = 0x00 then some .wait else if b = 0x01 then some .armAtBoot else if b = 0x02 then some .resume else none

def LogStyle.ofCode (b : Byte) : Option LogStyle :=
  if b = 0x00 then some .off else if b = 0x01 then some .wrap else if b = 0x02 then some .keepFirst else none

def WindowFunction.ofCode (b : Byte) : Option WindowFunction :=
  if b = 0x00 then some .accumulate else if b = 0x01 then some .weighted
  else if b = 0x02 then some .extreme else if b = 0x03 then some .difference else none

def Format.ofCode (b : Byte) : Option Format :=
  if b = 0x00 then some .u16 else if b = 0x01 then some .s16 else if b = 0x02 then some .u32 else none

/-- The check field: 00h off, 01h on. -/
def checkOfCode (b : Byte) : Option Bool :=
  if b = 0x00 then some false else if b = 0x01 then some true else none

def ReadAction.ofCode (b : Byte) : Option ReadAction :=
  if b = 0x00 then some .plain else if b = 0x01 then some .clear else none

def CrossingMode.ofCode (b : Byte) : Option CrossingMode :=
  if b = 0x00 then some .off else if b = 0x01 then some .first else if b = 0x02 then some .each else none

/-- A sweep action, as a command's action byte names it (01h to 03h). -/
def SweepAction.ofCode (b : Byte) : Option SweepAction :=
  if b = 0x01 then some .copy else if b = 0x02 then some .copyClear else if b = 0x03 then some .clear else none

/-- An interval or chord action: 00h is NONE; the outer option is `none` where the byte names no setting. -/
def windowActionOfCode (b : Byte) : Option (Option SweepAction) :=
  if b = 0x00 then some none else (SweepAction.ofCode b).map some

def SweepAction.code : SweepAction → BitVec 2
  | .copy => 1
  | .copyClear => 2
  | .clear => 3

def Edge.ofCode (b : BitVec 2) : Option Edge :=
  if b = 0 then some .rising else if b = 1 then some .falling else if b = 2 then some .both else none

def CommandState.code : CommandState → Byte
  | .idle => 0x00
  | .running => 0x01
  | .done => 0x02

def CommandResult.code : CommandResult → Byte
  | .none => 0x00
  | .ok => 0x01
  | .setupWarn => 0x02
  | .wrongState => 0x03
  | .badWindow => 0x04
  | .noWindow => 0x05
  | .badAction => 0x06
  | .notSweepable => 0x07
  | .overrun => 0x08
  | .notFound => 0x09
  | .memoryFault => 0x0A
  | .badCommand => 0x0B

def IncidentKind.code : IncidentKind → Byte
  | .setupInvalid => 0x01
  | .checkMismatch => 0x02
  | .suspectFull => 0x03
  | .memoryTimeout => 0x04
  | .memoryFault => 0x05
  | .crossing => 0x06
  | .eventLost => 0x07
  | .eventStuck => 0x08
  | .sweepOverrun => 0x09
  | .sweepAbandoned => 0x0A
  | .refused => 0x0B
  | .state => 0x0C

def Reason.code : Reason → BitVec 32
  | .tagInUse => 0x01
  | .protect => 0x02
  | .partOwned => 0x03
  | .laneSplit => 0x04
  | .checkLane => 0x05
  | .oddLane => 0x06
  | .suspect => 0x07
  | .commandBusy => 0x08
  | .commandShort => 0x09

def Origin.code : Origin → BitVec 32
  | .pass _ => 0x01
  | .fetch _ => 0x02
  | .writeback _ => 0x03
  | .shadow _ _ => 0x04
  | .log _ => 0x05
  | .setup _ => 0x06

def SweepSource.code : SweepSource → BitVec 3
  | .command => 1
  | .interval => 2
  | .chord => 3
  | .arm => 4

/-- The bit of a part flag (Table 13-2). -/
def PartFlag.bit : PartFlag → Nat
  | .setupFault => 0
  | .checkFault => 1
  | .suspectFull => 2
  | .memoryTimeout => 3
  | .memoryFault => 4
  | .eventLost => 5
  | .eventStuck => 6
  | .sweepOverrun => 7
  | .sweepFault => 8
  | .logFull => 9
  | .logDropped => 10
  | .commandDone => 11
  | .refusal => 12

/-- A result field of two bits: 0 OKAY, 1 REFUSED, 2 FAULT, and 3 is taken as FAULT (R176). -/
def Result.ofCode (c : BitVec 2) : Result := if c = 0 then .okay else if c = 1 then .refused else .fault

/-- A result as URSP_RESULT carries it (R176). -/
def Result.code : Result → BitVec 2
  | .okay => 0
  | .refused => 1
  | .fault => 2

/-- A window field: the number, or FFh where there is none. -/
def windowByte : Option WindowNo → Byte
  | none => 0xFF
  | some w => BitVec.ofNat 8 w.val

/-! ### Lines the bridge writes -/

/-- The status line (Table 13-2). -/
def encodeStatus (f : StatusFlags) (ps : PartState) (suspectCount inUse held : Nat) (next : BitVec 16)
    (tick : BitVec 32) : Line :=
  tick ++ next ++ BitVec.ofNat 8 held ++ BitVec.ofNat 8 inUse ++ BitVec.ofNat 8 suspectCount ++ ps.code
    ++ f.part.setWidth 16 ++ f.sweepDone ++ f.window

/-- The command line (Table 13-3). -/
def CommandLine.encode (c : CommandLine) : Line :=
  (0#32) ++ c.count ++ c.state.code ++ c.result.code ++ c.argument ++ c.swTag ++ c.action ++ c.window ++ c.code

/-- A log record (Table 13-7). -/
def Incident.encode (sequence : BitVec 16) (i : Incident) : Line :=
  i.detail ++ i.addr ++ i.tick ++ windowByte i.window ++ i.kind.code ++ sequence

/-- States of a shadow header (Table 13-1). -/
inductive HeaderState where
  | inProgress | complete | abandoned
  deriving DecidableEq, Repr

def HeaderState.code : HeaderState → BitVec 2
  | .inProgress => 1
  | .complete => 2
  | .abandoned => 3

/-- A shadow header, its check value still zero (Table 13-8). -/
def encodeHeader (st : HeaderState) (window : WindowNo) (action : SweepAction) (source : SweepSource)
    (sequence : BitVec 16) (startTick : BitVec 32) (endTick : BitVec 16) (copied failed : Nat) : Line :=
  (0#16) ++ BitVec.ofNat 16 failed ++ BitVec.ofNat 16 copied ++ endTick ++ startTick ++ sequence
    ++ BitVec.ofNat 8 window.val ++ ((0#1) ++ source.code ++ action.code ++ st.code)

/-! ### Lines the bridge reads -/

/-- Control Area line 2 (Table 13-4) with the fields that cannot be invalid; a start mode or divider that is invalid is
`none`. -/
structure BootLine where
  protect       : Bool
  startMode     : Option StartMode
  keepStatus    : Bool
  portOrder     : PortOrder
  polynomial    : Polynomial
  divider       : Option Nat
  responseLimit : Nat
  deriving DecidableEq, Repr

def BootLine.parse (l : Line) : BootLine where
  protect := (byteAt l 0).getLsbD 0
  startMode := StartMode.ofCode (byteAt l 1)
  keepStatus := (byteAt l 2).getLsbD 0
  portOrder := if (byteAt l 3).getLsbD 0 then .b else .a
  polynomial := if (byteAt l 4).getLsbD 0 then .b else .a
  divider := if fieldAt l 6 16 = 0 then none else some (fieldAt l 6 16).toNat
  responseLimit := (byteAt l 8).toNat

/-- The log base of Control Area line 3; the low four bits are ignored (R149). -/
def parseLogBase (l : Line) : LineAddr := lineOf (fieldAt l 0 32)

/-- The log style of Control Area line 3. -/
def parseLogStyle (l : Line) : Option LogStyle := LogStyle.ofCode (byteAt l 4)

/-- Whether line 10+2n holds an unused descriptor: length 0 and enable clear (R34). -/
def descriptorUnused (first : Line) : Bool := fieldAt first 8 16 == 0 && !(byteAt first 12).getLsbD 0

/-- A window descriptor (Table 13-6); `none` where an enumerated field names none of its settings (test 2 of R41). -/
def parseDescriptor (first second : Line) : Option WindowRecord := do
  let function ← WindowFunction.ofCode (byteAt first 10)
  let format ← Format.ofCode (byteAt first 11)
  let check ← checkOfCode (byteAt first 13)
  let readAction ← ReadAction.ofCode (byteAt first 14)
  let crossingMode ← CrossingMode.ofCode (byteAt first 15)
  let intervalAction ← windowActionOfCode (byteAt second 12)
  let chordAction ← windowActionOfCode (byteAt second 13)
  return {
    enable := (byteAt first 12).getLsbD 0
    function := function
    format := format
    check := check
    readAction := readAction
    base := lineOf (fieldAt first 0 32)
    length := (fieldAt first 8 16).toNat
    shadowBase := lineOf (fieldAt first 4 32)
    crossingMode := crossingMode
    threshold := fieldAt second 0 32
    weights := fieldAt second 4 64
    clearAtArm := (byteAt first 12).getLsbD 1
    intervalAction := intervalAction
    chordAction := chordAction }

/-- A binding as its eight bytes hold it (Table 13-5). -/
structure BindingFields where
  enable    : Bool
  edge      : Option Edge
  debounce  : BitVec 3
  lane      : BitVec 3
  increment : Byte
  target    : LineAddr
  deriving DecidableEq, Repr

/-- The binding at byte `at0` (0 or 8) of line 7 or 8. -/
def BindingFields.parse (l : Line) (at0 : Nat) : BindingFields where
  enable := (byteAt l at0).getLsbD 0
  edge := Edge.ofCode ((byteAt l at0).extractLsb' 1 2)
  debounce := (byteAt l at0).extractLsb' 4 3
  lane := (byteAt l (at0 + 1)).extractLsb' 0 3
  increment := byteAt l (at0 + 2)
  target := lineOf (fieldAt l (at0 + 4) 32)

/-- The chord setting as line 9 holds it (Table 13-4). -/
def parseChord (l : Line) : ChordSetting where
  members := (byteAt l 0).extractLsb' 0 4
  holdTime := (fieldAt l 2 16).toNat
  stuckLimit := (byteAt l 4).toNat

/-- The interval field of a window in lines 5–6 (Table 13-4). -/
def LiveCopies.intervalField (c : LiveCopies) (w : WindowNo) : BitVec 16 :=
  if w.val < 8 then fieldAt c.intervalsLow (2 * w.val) 16 else fieldAt c.intervalsHigh (2 * (w.val - 8)) 16

/-- An interval field of 1–9 is invalid (R150). -/
def intervalInvalid (v : BitVec 16) : Bool := decide (1 ≤ v.toNat ∧ v.toNat ≤ 9)

/-- The interval in force of a window, 0 where its field is invalid (R150). -/
def LiveCopies.interval (c : LiveCopies) (w : WindowNo) : Nat :=
  if intervalInvalid (c.intervalField w) then 0 else (c.intervalField w).toNat

/-- The window, sweep-done and part masks in force (R116). -/
def LiveCopies.windowMask (c : LiveCopies) : BitVec 16 := fieldAt c.masks 0 16
def LiveCopies.sweepDoneMask (c : LiveCopies) : BitVec 16 := fieldAt c.masks 2 16
def LiveCopies.partMask (c : LiveCopies) : BitVec 16 := fieldAt c.masks 4 16

/-! ### Numbers of a window record -/

/-- Weight `i` of the record, −128 to 127 (R55). -/
def WindowRecord.weight (r : WindowRecord) (i : Nat) : Int := (r.weights.extractLsb' (8 * i) 8).toInt

/-- The threshold as the window reads it (Table 3-4). -/
def WindowRecord.thresholdValue (r : WindowRecord) : Int :=
  match r.function, r.format with
  | .difference, _ => r.threshold.toInt
  | _, .s16 => r.threshold.toInt
  | _, _ => r.threshold.toNat

/-- Whether the threshold lies in its range (Table 3-4). -/
def WindowRecord.thresholdInRange (r : WindowRecord) : Bool :=
  let v := r.thresholdValue
  match r.function, r.format with
  | .difference, .u32 => decide (0 ≤ v ∧ v ≤ 2147483647)
  | .difference, _ => decide (0 ≤ v ∧ v ≤ 32767)
  | _, .u16 => decide (0 ≤ v ∧ v ≤ 65535)
  | _, .s16 => decide (-32768 ≤ v ∧ v ≤ 32767)
  | _, .u32 => true

end Sys2Proof.Machine
end

