-- ==== Sys2Proof/Machine/Ops.lean ====
section
/-!
DEFINITION. The operations the blocks share: flags of the status line, incidents and the log queue, upstream responses,
the Control Area's place, lookups in the Window Table and the Open Line Table, issuing a downstream request, the part
state and the end of a command.
-/

namespace Sys2Proof.Machine

/-! ### Flags (R108) -/

/-- The part flag's bit in the 13 part flags. -/
def PartFlag.mask (f : PartFlag) : BitVec 13 := 1#13 <<< f.bit

/-- The bit of a window in a 16-bit group of flags. -/
def windowMask (w : WindowNo) : BitVec 16 := 1#16 <<< w.val

/-- Sets a part flag; a flag already set stays set. -/
def State.setPartFlag (s : State) (f : PartFlag) : State := { s with flags.part := s.flags.part ||| f.mask }

/-- Sets a window alert flag. -/
def State.setWindowFlag (s : State) (w : WindowNo) : State :=
  { s with flags.window := s.flags.window ||| windowMask w }

/-- Sets a sweep-done flag. -/
def State.setSweepDone (s : State) (w : WindowNo) : State :=
  { s with flags.sweepDone := s.flags.sweepDone ||| windowMask w }

/-- Sets a part flag where a condition holds. -/
def State.setPartFlagIf (s : State) (b : Bool) (f : PartFlag) : State := if b then s.setPartFlag f else s

/-! ### Incidents (R161 to R163) -/

/-- An incident reported while the unit keeps incidents in BOOT: kept without a number, or discarded as the fifth, with
LOG_DROPPED (R162). -/
def State.keepIncident (s : State) (i : Incident) : State :=
  if s.logQueue.length < Config.logQueuePlaces then { s with logQueue := s.logQueue ++ [.kept i] }
  else s.setPartFlag .logDropped

/-- An incident taken by the tests of R163. -/
def State.takeIncident (s : State) (i : Incident) : State :=
  if s.logStyle = .off then s
  else if s.logStyle = .keepFirst ∧ Config.logLines ≤ s.logHeld then s.setPartFlag .logFull
  else if Config.logQueuePlaces ≤ s.logQueue.length then s.setPartFlag .logDropped
  else { s with
    logQueue := s.logQueue ++ [.record s.logNext i]
    logNext := s.logNext + 1
    logHeld := if s.logHeld < Config.logLines then s.logHeld + 1 else s.logHeld }

/-- An incident handed to the Incident Log Unit: kept until BOOT has formed the status copy, taken from then on. -/
def State.logIncident (s : State) (i : Incident) : State :=
  if s.bootStage = .formed then s.takeIncident i else s.keepIncident i

/-- A block reports an incident now (R161). -/
def State.report (s : State) (kind : IncidentKind) (window : Option WindowNo) (addr : ByteAddr)
    (detail : BitVec 32) : State :=
  s.logIncident ⟨kind, window, s.tick, addr, detail⟩

/-! ### Upstream responses (R1, R2, R15) -/

/-- A response is sent: it joins the response queue. -/
def State.respond (s : State) (tag : UpTag) (result : Result) (data : Option Line) : State :=
  { s with responses := s.responses ++ [⟨tag, result, data⟩] }

/-- A response is sent for an accepted request: its tag leaves the outstanding-tag set. -/
def State.answer (s : State) (tag : UpTag) (result : Result) (data : Option Line) : State :=
  { s.respond tag result data with outstanding := s.outstanding.filter (· != tag) }

/-- A tag joins the outstanding-tag set, which holds no duplicates (R2). -/
def State.addOutstanding (s : State) (tag : UpTag) : State :=
  { s with outstanding := if s.outstanding.contains tag then s.outstanding else s.outstanding ++ [tag] }

/-! ### The Control Area (R148) -/

/-- The Control Area base, n × 2000_0000h. -/
def State.controlBase (s : State) : LineAddr := s.setupSel ++ 0#25

/-- Line `k` of the Control Area. -/
def State.controlLine (s : State) (k : Nat) : LineAddr := s.controlBase + BitVec.ofNat 28 k

/-! ### Ranges and windows (R33, R34, R43) -/

/-- Whether a line lies in the `len` lines from `base`. -/
def lineIn (base : LineAddr) (len : Nat) (l : LineAddr) : Bool :=
  decide (base.toNat ≤ l.toNat ∧ l.toNat < base.toNat + len)

/-- The record of a valid window. -/
def State.record (s : State) (w : WindowNo) : Option WindowRecord := s.windows[w].record

/-- The record of a window in service: valid and enabled (R34). -/
def State.inService (s : State) (w : WindowNo) : Option WindowRecord :=
  match s.record w with
  | some r => if r.enable then some r else none
  | none => none

/-- Whether a line is a line of the window in service. -/
def State.windowHolds (s : State) (l : LineAddr) (w : WindowNo) : Bool :=
  match s.inService w with
  | some r => lineIn r.base r.length l
  | none => false

/-- The window in service whose range holds the line (R43). -/
def State.windowOf (s : State) (l : LineAddr) : Option WindowNo := (List.finRange 16).find? (s.windowHolds l)

/-- Whether a line lies in the shadow region of the valid window: length + 1 lines, none where the base is 0 (R33). -/
def State.shadowHolds (s : State) (l : LineAddr) (w : WindowNo) : Bool :=
  match s.record w with
  | some r => r.shadowBase != 0 && lineIn r.shadowBase (r.length + 1) l
  | none => false

/-- Changes one place of the Window Table. -/
def State.setWindow (s : State) (w : WindowNo) (slot : WindowSlot) : State :=
  { s with windows := s.windows.set w slot }

/-! ### General entries (R69 to R71) -/

/-- The line and window an entry holds. -/
def Entry.hold? : Entry → Option Hold
  | .free => none
  | .fetchWait h _ => some h
  | .fetching h _ _ => some h
  | .wbWait h _ _ _ => some h
  | .writing h _ _ _ _ _ _ => some h

/-- Whether an entry is in use: in every state but FREE (R70). -/
def Entry.inUse (e : Entry) : Bool := e.hold?.isSome

/-- Whether an entry holds the line. -/
def Entry.holds (l : LineAddr) (e : Entry) : Bool :=
  match e.hold? with
  | some h => h.line == l
  | none => false

/-- An entry's item queue, empty where the state has none (Table 5-1). -/
def Entry.queue : Entry → List Item
  | .fetchWait _ q => q
  | .fetching _ q _ => q
  | _ => []

/-- The general entry that holds the line. -/
def State.entryOf (s : State) (l : LineAddr) : Option (Fin 12) :=
  (List.finRange 12).find? fun i => s.entries[i].holds l

/-- The lowest-numbered FREE general entry (R71). -/
def State.freeEntry (s : State) : Option (Fin 12) := (List.finRange 12).find? fun i => !s.entries[i].inUse

/-- The number of general entries in use (R70). -/
def State.inUse (s : State) : Nat := (List.finRange 12).countP fun i => s.entries[i].inUse

/-- Changes one general entry. -/
def State.setEntry (s : State) (i : Fin 12) (e : Entry) : State := { s with entries := s.entries.set i e }

/-- Whether the line is on the Suspect Line List (R99). -/
def State.listed (s : State) (l : LineAddr) : Bool := s.suspects.contains l

/-- Takes a line off the list; the lines after it keep their order (R99). -/
def State.delist (s : State) (l : LineAddr) : State := { s with suspects := s.suspects.filter (· != l) }

/-! ### Downstream requests (R19, R24) -/

/-- Changes the state of a downstream tag. -/
def State.setTag (s : State) (t : DownTag) (st : TagState) : State := { s with tags := s.tags.set t st }

/-- Whether a request is a WRITE. -/
def isWriteBody : ReqBody → Bool
  | .read => false
  | .write _ _ => true

/-- A WRITE with all 16 bytes enabled (Table 2-1). -/
def fullWrite (data : Line) : ReqBody := .write (BitVec.allOnes 16) data

/-- The grant's part at the port: the record is filled, the tag becomes OUTSTANDING, the request is sent (R24). -/
def State.issue (s : State) (t : DownTag) (origin : Origin) (line : LineAddr) (body : ReqBody) : State :=
  { s with
    tags := s.tags.set t (.outstanding ⟨origin, isWriteBody body, line, s.tick, false⟩)
    dreq := s.dreq ++ [⟨t, line, body⟩] }

/-! ### Part state and commands (R153, R161, R167) -/

/-- A change of part state other than by a reset: the state takes effect and one STATE incident is reported. -/
def State.enter (s : State) (ps : PartState) : State :=
  { s with partState := ps }.report .state none (byteAddr s.controlBase) (ps.code.setWidth 32)

/-- A command completes: result, DONE and COMMAND_DONE in one step (R153). -/
def State.completeCommand (s : State) (r : CommandResult) : State :=
  { s with command.result := r, command.state := .done }.setPartFlag .commandDone

/-- A Control Area setting fell to its default: SETUP_FAULT, the arming's mark, and one SETUP_INVALID incident
(R149, R150, R152). The mark matters in LOADING only, which clears it on entry. -/
def State.setupInvalid (s : State) (window : Option WindowNo) (addr : ByteAddr) (code : BitVec 32) : State :=
  let t : State := { s with fellToDefault := s.fellToDefault || s.partState == .loading }
  (t.setPartFlag .setupFault).report .setupInvalid window addr code

end Sys2Proof.Machine
end

