-- ==== Sys2Proof/Machine/Flags.lean ====
section
/-!
DEFINITION. The Flag Unit: the status line as a view of its sources, the pinned entries following their copies,
crossings, and ALERT_N (chapter 7, R86, R87).
-/

namespace Sys2Proof.Machine

/-! ### The pinned lines -/

/-- The working copy of pinned entry 0 with a given tick field (R108): flags, and the value fields as their sources
stand. -/
def State.statusCopy (s : State) (tick : BitVec 32) : Line :=
  encodeStatus s.flags s.partState s.suspects.length s.inUse s.logHeld s.logNext tick

/-- The working copy of pinned entry 1. -/
def State.commandCopy (s : State) : Line := s.command.encode

/-- The status line without its tick field, which the comparison of R78 leaves out (R110). -/
def statusPart (l : Line) : BitVec 96 := l.extractLsb' 0 96

/-- What a pinned entry's state becomes when the copy stood as `before` and stands as `after` the step (R87). `same` is
the comparison of R78 for the line. -/
def PinnedEntry.follow (same : Line → Line → Bool) (before after : Line) : PinnedEntry → PinnedEntry
  | .empty => .empty
  | .held image => if same image after then .held image else .wbWait (some image)
  | .wbWait image => .wbWait image
  | .writing image redirty sent tag => .writing image (redirty || !same before after) sent tag

/-! ### ALERT_N (R116, R117) -/

/-- Whether some flag selected by the masks in force is set. -/
def State.maskedFlags (s : State) : Bool :=
  s.flags.window &&& s.live.windowMask != 0 || s.flags.sweepDone &&& s.live.sweepDoneMask != 0
    || s.flags.part.setWidth 16 &&& s.live.partMask != 0

/-- ALERT_N as R117 judges it: never in BOOT, else exactly when a masked flag is set. -/
def State.alertJudged (s : State) : Bool := s.partState != .boot && s.maskedFlags

/-- The end of a step: the pinned entries follow the copies as the step left them, and ALERT_N is judged. -/
def State.commit (before after : State) : State :=
  { after with
    statusEntry := after.statusEntry.follow (fun a b => statusPart a == statusPart b)
      (before.statusCopy 0) (after.statusCopy 0)
    commandEntry := after.commandEntry.follow (fun a b => a == b) before.commandCopy after.commandCopy
    alert := after.alertJudged }

/-- What a command answers: the step's effect with its end, or, where the step's cause is not there, the state as it is
(notes/assumptions/2.md). -/
def finish (s : State) (effect : Option State) : Host.Outcome State Fault Refusal :=
  match effect with
  | none => .next s
  | some t => .next (s.commit t)

/-! ### Crossings (R113, R114) -/

/-- A watched value of one item: the lane, and the value before and after (R68). -/
structure Watched where
  lane   : Nat
  before : Int
  after  : Int
  deriving DecidableEq, Repr

/-- A counted crossing: the alert flag and one CROSSING incident, with the lane in the address's low four bits. -/
def State.countCrossing (s : State) (w : WindowNo) (line : LineAddr) (v : Watched) : State :=
  (s.setWindowFlag w).report .crossing (some w) (line ++ BitVec.ofNat 4 v.lane) (BitVec.ofInt 32 v.after)

/-- One crossing test under the window's mode and crossing-armed flag. -/
def State.testCrossing (s : State) (w : WindowNo) (r : WindowRecord) (line : LineAddr) (v : Watched) : State :=
  if v.before < r.thresholdValue ∧ r.thresholdValue ≤ v.after then
    match r.crossingMode with
    | .off => s
    | .each => s.countCrossing w line v
    | .first =>
      if s.windows[w].armed then
        (s.setWindow w { s.windows[w] with armed := false }).countCrossing w line v
      else s
  else s

/-- The crossing tests of one item, in ascending lane order (R114). -/
def State.testCrossings (s : State) (w : WindowNo) (r : WindowRecord) (line : LineAddr) (vs : List Watched) : State :=
  vs.foldl (fun acc v => acc.testCrossing w r line v) s

/-! ### Reading the status line (R111) -/

/-- The answer to a READ of the status line, and the read-clear of every flag it returns. -/
def State.clearFlags (s : State) : State := { s with flags := ⟨0, 0, 0⟩ }

end Sys2Proof.Machine
end

