-- ==== Sys2Proof/Machine/Lanes.lean ====
section
/-!
DEFINITION. The Lane Arithmetic Unit: what one UPDATE does to a working copy, and the watched values it hands to the
Flag Unit (chapter 4). Every lane is computed from the copy as it stands before the item (R49), exactly, and saturated
once (R51).
-/

namespace Sys2Proof.Machine

/-- The lanes an item enables, in ascending order. -/
def enabledLanes (f : Format) (lanes : BitVec 8) : List Nat := (List.range f.lanes).filter fun i => lanes.getLsbD i

/-- ACCUMULATE and WEIGHTED: each enabled lane takes its value plus `factor i` times the carried value, saturated
(R52, R55). -/
def addLanes (f : Format) (factor : Nat → Int) (lanes : BitVec 8) (data copy : Line) : Line :=
  (enabledLanes f lanes).foldl
    (fun acc i => writeLane f.width i
      (saturate f.signed f.width
        (readLane f.signed f.width i copy + factor i * readLane f.signed f.width i data)) acc)
    copy

/-- A sample of an EXTREME item: its lane and value (R57). -/
abbrev Sample := Nat × Int

/-- The samples an EXTREME item carries, one in each lane it enables. -/
def samplesOf (f : Format) (lanes : BitVec 8) (data : Line) : List Sample :=
  (enabledLanes f lanes).map fun i => (i, readLane f.signed f.width i data)

/-- The sample that `better` prefers to every other; the lowest-numbered lane among equals (R58). -/
def pickSample (better : Int → Int → Bool) : List Sample → Option Sample
  | [] => none
  | x :: xs => some (xs.foldl (fun best y => if better y.2 best.2 then y else best) x)

/-- Stores an extreme: the value in lane `at0`, the sample's lane in lane `at0 + 1`, the tick in lane `tickLane`. -/
def storeExtreme (at0 tickLane : Nat) (tick : BitVec 32) (x : Sample) (l : Line) : Line :=
  writeLane 16 tickLane (tick.extractLsb' 0 16).toNat (writeLane 16 (at0 + 1) x.1 (writeLane 16 at0 x.2 l))

/-- EXTREME: minimum, maximum and sample count (R58, R59). -/
def extremeUpdate (f : Format) (tick : BitVec 32) (lanes : BitVec 8) (data copy : Line) : Line :=
  let samples := samplesOf f lanes data
  let withMin := match pickSample (fun a b => decide (a < b)) samples with
    | some x => if x.2 < readLane f.signed 16 0 copy then storeExtreme 0 5 tick x copy else copy
    | none => copy
  let withMax := match pickSample (fun a b => decide (b < a)) samples with
    | some x => if readLane f.signed 16 2 copy < x.2 then storeExtreme 2 6 tick x withMin else withMin
    | none => withMin
  writeLane 16 4 (saturate false 16 (readLane false 16 4 copy + samples.length)) withMax

/-- The even lanes a DIFFERENCE item enables (R60). -/
def enabledPairs (f : Format) (lanes : BitVec 8) : List Nat := (enabledLanes f lanes).filter fun i => i % 2 == 0

/-- DIFFERENCE: the odd lane takes the saturated signed difference, the even lane the carried sample (R60). -/
def differenceUpdate (f : Format) (lanes : BitVec 8) (data copy : Line) : Line :=
  (enabledPairs f lanes).foldl
    (fun acc e => writeLane f.width e (readLane f.signed f.width e data)
      (writeLane f.width (e + 1)
        (saturate true f.width (readLane f.signed f.width e data - readLane f.signed f.width e copy)) acc))
    copy

/-- What an UPDATE does to the working copy, by the window's function (R48, R62). -/
def WindowRecord.update (r : WindowRecord) (tick : BitVec 32) (lanes : BitVec 8) (data copy : Line) : Line :=
  match r.function with
  | .accumulate => addLanes r.format (fun _ => 1) lanes data copy
  | .weighted => addLanes r.format r.weight lanes data copy
  | .extreme => extremeUpdate r.format tick lanes data copy
  | .difference => differenceUpdate r.format lanes data copy

/-- The watched values an UPDATE hands over, in ascending lane order (Table 4-4). -/
def WindowRecord.watched (r : WindowRecord) (lanes : BitVec 8) (before after : Line) : List Watched :=
  let f := r.format
  let value (signed : Bool) (l : Line) (i : Nat) : Int := readLane signed f.width i l
  let magnitude (l : Line) (i : Nat) : Int := (value true l i).natAbs
  match r.function with
  | .accumulate | .weighted =>
    (enabledLanes f lanes).map fun i => ⟨i, value f.signed before i, value f.signed after i⟩
  | .extreme => [⟨2, value f.signed before 2, value f.signed after 2⟩]
  | .difference => (enabledPairs f lanes).map fun e => ⟨e + 1, magnitude before (e + 1), magnitude after (e + 1)⟩

end Sys2Proof.Machine
end

