-- ==== Sys2Proof/Machine/Sweeps.lean ====
section
/-!
DEFINITION. The Sweep Engine and the Sweep Queue: requests, the start of a sweep, resolving a line's item, the answers of
shadow writes, headers and abandonment (chapter 9).
-/

namespace Sys2Proof.Machine

/-! ### The Sweep Queue (R133) -/

/-- Whether an arriving request is dropped: a request for the window is queued, or the queue is full. -/
def State.dropsSweep (s : State) (q : SweepRequest) : Bool :=
  s.sweepQueue.any (fun p => p.window == q.window) || decide (Config.sweepQueuePlaces ≤ s.sweepQueue.length)

/-- The base of a window's range, 0 where the window is not valid. -/
def State.windowBase (s : State) (w : WindowNo) : LineAddr :=
  match s.record w with
  | some r => r.base
  | none => 0

/-- A sweep request arrives: queued at the tail, or dropped as an overrun. -/
def State.handSweep (s : State) (q : SweepRequest) : State :=
  if s.dropsSweep q then
    (s.setPartFlag .sweepOverrun).report .sweepOverrun (some q.window) (byteAddr (s.windowBase q.window))
      (q.source.code.setWidth 32)
  else { s with sweepQueue := s.sweepQueue ++ [q] }

/-- Requests of one source in one step, in the order the source gives (R132). -/
def State.handSweeps (s : State) (qs : List SweepRequest) : State := qs.foldl State.handSweep s

/-- The requests a source hands: one for each window, in ascending order, for which `action` gives one. -/
def State.requestsFor (s : State) (source : SweepSource) (action : WindowRecord → Option SweepAction) :
    List SweepRequest :=
  (List.finRange 16).filterMap fun w =>
    match s.inService w with
    | some r => (action r).map fun a => ⟨w, a, source⟩
    | none => none

/-! ### Headers (R136, Table 9-1) -/

/-- A shadow header write: the check value of its own bytes 0–13 for a check-on window, else zero (R96). -/
def State.headerWrite (s : State) (sw : Sweep) (r : WindowRecord) (st : HeaderState) (target : ShadowTarget)
    (endTick : BitVec 16) : ShadowWrite :=
  let h := encodeHeader st sw.window sw.action sw.source sw.sequence sw.startTick endTick sw.copied sw.failed
  { target := target
    line := r.shadowBase
    data := if r.check then putBits 112 (checkValue s.boot.polynomial h) h else h }

/-- The low 16 bits of the tick counter, as a header's end tick holds it (Table 13-8). -/
def State.endTick (s : State) : BitVec 16 := s.tick.extractLsb' 0 16

/-! ### Start (R135) -/

/-- The record a sweep begins with: CLEAR goes straight to LINES and brings its first claim; a copying sweep opens with
its header. -/
def State.openingSweep (s : State) (q : SweepRequest) (r : WindowRecord) (sequence : BitVec 16) : Sweep :=
  let sw : Sweep :=
    { phase := .lines, window := q.window, action := q.action, source := q.source, sequence := sequence
      startTick := s.tick, nextIndex := 0, inFlight := .claimWaiting, copied := 0, failed := 0
      headerFailed := false, waiting := [], issued := [], endHeader := .notProduced, abandoning := false }
  if q.action = .clear then sw
  else { sw with
    phase := .opening
    inFlight := .none
    waiting := [s.headerWrite sw r .inProgress .opening 0] }

/-- The engine begins the head request of the queue. -/
def State.startSweep (s : State) (q : SweepRequest) (rest : List SweepRequest) (r : WindowRecord) : State :=
  let sequence := s.windows[q.window].sequence + 1
  { s with
    sweepQueue := rest
    windows := s.windows.set q.window { s.windows[q.window] with sequence := sequence }
    engine := some (s.openingSweep q r sequence) }

/-! ### Resolving a line's item (R137, R138, R142) -/

/-- How a SWEEP item resolved. -/
inductive Resolution where
  | handed (copy : Line)
  | cleared
  | skipped
  deriving DecidableEq, Repr

/-- The record after an item resolved: the skip counted, or the shadow write produced; nothing is produced once the
sweep is abandoned. -/
def Sweep.resolved (sw : Sweep) (r : WindowRecord) (p : Polynomial) (index : Nat) (res : Resolution) : Sweep :=
  let next := { sw with inFlight := .none, nextIndex := sw.nextIndex + 1 }
  match res with
  | .handed copy =>
    if sw.abandoning then next
    else { next with
      waiting := sw.waiting ++ [⟨.line index, r.shadowBase + BitVec.ofNat 28 (index + 1), r.fillHeld p copy⟩] }
  | .cleared => next
  | .skipped => { next with failed := sw.failed + 1 }

/-- What follows in the same step: the next line's claim, CLOSING, or the close of a CLEAR sweep. -/
def State.advanceSweep (s : State) (sw : Sweep) (r : WindowRecord) : State :=
  if sw.abandoning then { s with engine := some sw }
  else if sw.nextIndex < r.length then { s with engine := some { sw with inFlight := .claimWaiting } }
  else if sw.action = .clear then
    ({ s with engine := none }.setSweepDone sw.window).setPartFlagIf (decide (0 < sw.failed)) .sweepFault
  else { s with engine := some { sw with phase := .closing } }

/-- The engine is told how the line's item resolved. -/
def State.resolveItem (s : State) (index : Nat) (res : Resolution) : State :=
  match s.engine with
  | none => s
  | some sw =>
    match s.record sw.window with
    | none => s
    | some r => s.advanceSweep (sw.resolved r s.boot.polynomial index res) r

/-! ### Answers of shadow writes (R140) -/

/-- The record after the answer to the shadow write with tag `t`. -/
def Sweep.answered (sw : Sweep) (t : DownTag) (target : ShadowTarget) (ok : Bool) : Sweep :=
  let next := { sw with issued := sw.issued.filter fun p => p.1 != t }
  match target with
  | .line _ => if ok then { next with copied := sw.copied + 1 } else { next with failed := sw.failed + 1 }
  | .opening => { next with headerFailed := sw.headerFailed || !ok }
  | .ending => { next with endHeader := .answered (!ok) }

/-- The engine is told the answer; an origin that has gone away receives nothing (R29). -/
def State.shadowAnswered (s : State) (t : DownTag) (target : ShadowTarget) (ok : Bool) : State :=
  match s.engine with
  | none => s
  | some sw =>
    if sw.issued.any (fun p => p.1 == t) then { s with engine := some (sw.answered t target ok) } else s

/-! ### The grant of a shadow write (R23, R135, R137) -/

/-- The record when its oldest waiting write is granted tag `t`; the grant of the opening header ends OPENING and brings
the first line's claim. -/
def Sweep.granted (sw : Sweep) (t : DownTag) (w : ShadowWrite) (rest : List ShadowWrite) : Sweep :=
  let next := { sw with waiting := rest, issued := sw.issued ++ [(t, w.target)] }
  if w.target = .opening then { next with phase := .lines, inFlight := .claimWaiting } else next

/-! ### Closing and abandonment (R141, R145, R146) -/

/-- Whether every shadow write the sweep has produced has been answered. -/
def Sweep.allAnswered (sw : Sweep) : Bool := sw.waiting.isEmpty && sw.issued.isEmpty

/-- Whether the closing header has been granted a tag. -/
def Sweep.endGranted (sw : Sweep) : Bool :=
  match sw.endHeader with
  | .notProduced => false
  | .produced => sw.issued.any fun p => p.2 == .ending
  | .answered _ => true

/-- The record at DISARM: a sweep whose closing header has its tag goes on; any other is abandoned, its waiting claim
and its ungranted writes withdrawn. -/
def Sweep.atDisarm (sw : Sweep) : Sweep :=
  if sw.phase = .closing ∧ sw.endGranted then sw
  else { sw with
    abandoning := true
    inFlight := if sw.inFlight = .claimWaiting then .none else sw.inFlight
    waiting := []
    endHeader := .notProduced }

/-- The engine at DISARM (R145). -/
def State.abandonSweeps (s : State) : State :=
  { s with sweepQueue := [], engine := s.engine.map Sweep.atDisarm }

/-- Produces the closing or abandoning header. -/
def State.produceEnding (s : State) (sw : Sweep) (r : WindowRecord) (st : HeaderState) : State :=
  { s with engine := some { sw with
      waiting := sw.waiting ++ [s.headerWrite sw r st .ending s.endTick]
      endHeader := .produced } }

end Sys2Proof.Machine
end

