-- ==== Sys2Proof/Machine/Table.lean ====
section
/-!
DEFINITION. The Open Line Table: applying items, opening and joining entries, the end of a fetch, the end of a
write-back, and the Suspect Line List (chapters 5 and 6).
-/

namespace Sys2Proof.Machine

/-! ### Applying an item (R63 to R68, R74, R77) -/

/-- An UPDATE applied under a window's record: the copy, and the crossing tests of an UPDATE of origin UP or EVENT in a
window whose crossing mode is not OFF (R68). The repair's UPDATE of origin CMD enables no lane and has no effect. -/
def State.applyUpdate (s : State) (h : Hold) (r : WindowRecord) (origin : UpdateOrigin) (data : Line)
    (lanes : BitVec 8) (copy : Line) : Line × State :=
  if origin = .cmd then (copy, s)
  else
    let copy' := r.update s.tick lanes data copy
    (copy', if r.crossingMode = .off then s else s.testCrossings h.window r h.line (r.watched lanes copy copy'))

/-- A READ applied: answered OKAY with the copy in the form of R65; then the read action's clear (R63, R64). -/
def State.applyRead (s : State) (r : WindowRecord) (tag : UpTag) (copy : Line) : Line × State :=
  (if r.readAction = .clear then r.clearInPlace copy else copy,
    s.answer tag .okay (some (r.fillHeld s.boot.polynomial copy)))

/-- A SWEEP item applied: the copy handed to the engine, then the action's clear (R66). -/
def State.applySweep (s : State) (r : WindowRecord) (action : SweepAction) (index : Nat) (copy : Line) :
    Line × State :=
  match action with
  | .copy => (copy, s.resolveItem index (.handed copy))
  | .copyClear => (r.clearInPlace copy, s.resolveItem index (.handed copy))
  | .clear => (r.clearInPlace copy, s.resolveItem index .cleared)

/-- One item applied to a working copy, under the record of the entry's window (R69). -/
def State.applyItem (s : State) (h : Hold) (item : Item) (copy : Line) : Line × State :=
  match s.record h.window with
  | none => (copy, s)
  | some r =>
    match item with
    | .update origin data lanes => s.applyUpdate h r origin data lanes copy
    | .read tag => s.applyRead r tag copy
    | .sweep action _ index => s.applySweep r action index copy

/-- The items of a queue applied in queue order, each to the copy as the items before it left it (R77). -/
def State.applyItems (s : State) (h : Hold) (items : List Item) (copy : Line) : Line × State :=
  items.foldl (fun (acc : Line × State) item => acc.2.applyItem h item acc.1) (copy, s)

/-! ### Where an item goes (R71, R73, R74, R88) -/

/-- What an item for a line meets in the table. -/
inductive Place where
  /-- an entry in WB_WAIT or WRITING: applied at acceptance -/
  | apply (i : Fin 12)
  /-- a place in the queue of an entry in FETCH_WAIT or FETCHING -/
  | join (i : Fin 12)
  /-- that queue holds 8 items -/
  | full (i : Fin 12)
  /-- no entry holds the line: the lowest-numbered FREE entry -/
  | openAt (i : Fin 12)
  /-- no entry holds the line and none is FREE -/
  | noEntry
  deriving DecidableEq, Repr

/-- The place for a line's item, on the table as it stands. -/
def State.place (s : State) (l : LineAddr) : Place :=
  match s.entryOf l with
  | some i =>
    match s.entries[i] with
    | .fetchWait _ q | .fetching _ q _ => if q.length < Config.itemQueuePlaces then .join i else .full i
    | .wbWait .. | .writing .. => .apply i
    | .free => .noEntry
  | none =>
    match s.freeEntry with
    | some i => .openAt i
    | none => .noEntry

/-- Whether a claim's need is available (R88). -/
def Place.available : Place → Bool
  | .apply _ | .join _ | .openAt _ => true
  | .full _ | .noEntry => false

/-- Applies an item at acceptance to entry `i` in WB_WAIT or WRITING; in WRITING a change sets re-dirty (R74). -/
def State.applyAt (s : State) (i : Fin 12) (item : Item) : State :=
  match s.entries[i] with
  | .wbWait h copy image mark =>
    let r := s.applyItem h item copy
    r.2.setEntry i (.wbWait h r.1 image mark)
  | .writing h copy image mark redirty sent tag =>
    let r := s.applyItem h item copy
    r.2.setEntry i (.writing h r.1 image mark (redirty || r.1 != copy) sent tag)
  | _ => s

/-- Places an item at the tail of the queue of entry `i` (R73). -/
def State.joinQueue (s : State) (i : Fin 12) (item : Item) : State :=
  match s.entries[i] with
  | .fetchWait h q => s.setEntry i (.fetchWait h (q ++ [item]))
  | .fetching h q tag => s.setEntry i (.fetching h (q ++ [item]) tag)
  | _ => s

/-- Opens entry `i` with a fetch, the item first in its queue (R71). -/
def State.openFetch (s : State) (i : Fin 12) (h : Hold) (item : Item) : State :=
  s.setEntry i (.fetchWait h [item])

/-- Opens entry `i` without a fetch, its copy the window's cleared line and its image absent, and applies the opening
item; a listed line leaves the list in the same step (R72, R103, R104). -/
def State.openCleared (s : State) (i : Fin 12) (h : Hold) (r : WindowRecord) (item : Item) (mark : Bool) : State :=
  ((s.delist h.line).setEntry i (.wbWait h r.clearedLine none mark)).applyAt i item

/-- Accepts an item that opens with a fetch where no entry holds its line (R71, R73, R74). -/
def State.accept (s : State) (h : Hold) (item : Item) : State :=
  match s.place h.line with
  | .apply i => s.applyAt i item
  | .join i => s.joinQueue i item
  | .openAt i => s.openFetch i h item
  | .full _ | .noEntry => s

/-! ### The end of a fetch (R76, R82, R83, R98) -/

/-- The fetch completes: image, copy, the queue applied in order, then WB_WAIT if the copy differs, else FREE. -/
def State.fetchComplete (s : State) (i : Fin 12) (h : Hold) (q : List Item) (r : WindowRecord) (data : Line) : State :=
  let res := s.applyItems h q (r.zeroHeld data)
  if r.differs res.1 (some data) then res.2.setEntry i (.wbWait h res.1 (some data) false)
  else res.2.setEntry i .free

/-- One queued item disposed of unapplied: a READ is answered FAULT, a SWEEP item is reported skipped (R82). -/
def State.disposeItem (s : State) (item : Item) : State :=
  match item with
  | .update .. => s
  | .read tag => s.answer tag .fault none
  | .sweep _ _ index => s.resolveItem index .skipped

/-- The number of UPDATE items in a queue (R83). -/
def updateCount (q : List Item) : Nat :=
  q.countP fun item => match item with
    | .update .. => true
    | _ => false

/-- A mismatching line is offered to the Suspect Line List: appended, or left off a full one with SUSPECT_FULL (R98). -/
def State.listSuspect (s : State) (h : Hold) : State :=
  if s.suspects.length < Config.suspectPlaces then { s with suspects := s.suspects ++ [h.line] }
  else (s.setPartFlag .suspectFull).report .suspectFull (some h.window) (byteAddr h.line) 8

/-- Why a fetch or write-back ended in a fault (R81, R83). -/
inductive Cause where
  | memory | timeout | mismatch
  deriving DecidableEq, Repr

/-- The flag of a cause. -/
def Cause.flag : Cause → PartFlag
  | .memory => .memoryFault
  | .timeout => .memoryTimeout
  | .mismatch => .checkFault

/-- The incident kind of a cause. -/
def Cause.kind : Cause → IncidentKind
  | .memory => .memoryFault
  | .timeout => .memoryTimeout
  | .mismatch => .checkMismatch

/-- The fetch ends in a fault: the queue disposed of in order, the one incident with the number of discarded updates,
the entry FREE, and a mismatching line offered to the list. -/
def State.fetchFault (s : State) (i : Fin 12) (h : Hold) (q : List Item) (c : Cause) : State :=
  let disposed := (q.foldl State.disposeItem s).setEntry i .free
  let reported := (disposed.setPartFlag c.flag).report c.kind (some h.window) (byteAddr h.line)
    (BitVec.ofNat 32 (updateCount q))
  if c = .mismatch then reported.listSuspect h else reported

/-- The outcome of a downstream request: memory's answer, or its expiry (R20, R26). -/
inductive Outcome where
  | okay (data : Line)
  | refused
  | fault
  | expired
  deriving DecidableEq, Repr

/-- The cause a failed outcome is; REFUSED counts as a memory FAULT for every origin but PASS (R20). -/
def Outcome.cause : Outcome → Cause
  | .expired => .timeout
  | _ => .memory

/-- The outcome of entry `i`'s fetch reaches the entry (R75, R97). -/
def State.fetchEnded (s : State) (i : Fin 12) (o : Outcome) : State :=
  match s.entries[i] with
  | .fetching h q _ =>
    match s.record h.window, o with
    | some r, .okay data =>
      if r.check && !checkPasses s.boot.polynomial data then s.fetchFault i h q .mismatch
      else s.fetchComplete i h q r data
    | none, .okay _ => s.fetchFault i h q .memory
    | _, o => s.fetchFault i h q o.cause
  | _ => s

/-! ### The end of a write-back (R80, R81, R85, R87) -/

/-- The report of a failed write-back: flag and one incident with detail WRITEBACK (R81). -/
def State.writebackFault (s : State) (window : Option WindowNo) (l : LineAddr) (c : Cause) : State :=
  (s.setPartFlag c.flag).report c.kind window (byteAddr l) (Origin.writeback .status).code

/-- A repair's first write-back ends, so the RELEASE completes (R85, R159). -/
def State.releaseOutcome (s : State) (mark ok : Bool) : State :=
  if mark then s.completeCommand (if ok then .ok else .memoryFault) else s

/-- The outcome of general entry `i`'s write-back: WB_WAIT again if re-dirty, else FREE; the image is the data sent, or
stays on a fault. -/
def State.writebackEnded (s : State) (i : Fin 12) (o : Outcome) : State :=
  match s.entries[i] with
  | .writing h copy image mark redirty sent _ =>
    match o with
    | .okay _ =>
      (s.setEntry i (if redirty then .wbWait h copy (some sent) false else .free)).releaseOutcome mark true
    | _ =>
      ((s.setEntry i (if redirty then .wbWait h copy image false else .free)).writebackFault (some h.window) h.line
        o.cause).releaseOutcome mark false
  | _ => s

/-- A pinned entry at the end of its write-back: WB_WAIT if re-dirty, else HELD with the data sent as its image, on OKAY
and on a fault alike (R87). -/
def PinnedEntry.ended (ok : Bool) : PinnedEntry → PinnedEntry
  | .writing image redirty sent _ =>
    if redirty then .wbWait (if ok then some sent else image) else .held sent
  | e => e

/-- Whether an outcome is memory's OKAY. -/
def Outcome.isOkay : Outcome → Bool
  | .okay _ => true
  | _ => false

/-- The outcome of entry 0's write-back. -/
def State.statusWritebackEnded (s : State) (o : Outcome) : State :=
  let t : State := { s with statusEntry := s.statusEntry.ended o.isOkay, statusWritten := true }
  if o.isOkay then t else t.writebackFault none (s.controlLine 0) o.cause

/-- The outcome of entry 1's write-back. -/
def State.commandWritebackEnded (s : State) (o : Outcome) : State :=
  let t : State := { s with commandEntry := s.commandEntry.ended o.isOkay, commandWritten := true }
  if o.isOkay then t else t.writebackFault none (s.controlLine 1) o.cause

end Sys2Proof.Machine
end

