-- ==== Sys2Proof/Machine/Port.lean ====
section
/-!
DEFINITION. The Downstream Port: waiters and the Port Arbiter, responses by the state of their tag, expiry, and each
outcome handed to its origin (chapter 2).
-/

namespace Sys2Proof.Machine

/-! ### Waiters (R21 to R23) and the two orders (Table 2-2) -/

/-- Waiter classes. -/
inductive PortClass where
  | writeback | fetch | pass | shadow | log | setup
  deriving DecidableEq, Repr

/-- A waiter the arbiter can grant a tag. -/
inductive Waiter where
  | writebackStatus
  | writebackCommand
  | writeback (i : Fin 12)
  | fetch (i : Fin 12)
  | pass (p : PassRequest) (rest : List PassRequest)
  | shadow (sw : Sweep) (w : ShadowWrite) (rest : List ShadowWrite)
  | log (sequence : BitVec 16) (incident : Incident) (rest : List LogEntry)
  | setup (k : Fin 42)
  deriving DecidableEq, Repr

/-- Whether a pinned entry waits to be written. -/
def PinnedEntry.waits : PinnedEntry → Bool
  | .wbWait _ => true
  | _ => false

/-- Whether a general entry waits to be written. -/
def Entry.waitsWrite : Entry → Bool
  | .wbWait .. => true
  | _ => false

/-- Whether a general entry waits to be fetched. -/
def Entry.waitsFetch : Entry → Bool
  | .fetchWait .. => true
  | _ => false

/-- Whether a setup read waits for a tag. -/
def SetupSlot.waits : SetupSlot → Bool
  | .waiting => true
  | _ => false

/-- WRITEBACK: entries in WB_WAIT, the lowest entry number first (R22). -/
def State.writebackWaiter (s : State) : Option Waiter :=
  if s.statusEntry.waits then some .writebackStatus
  else if s.commandEntry.waits then some .writebackCommand
  else ((List.finRange 12).find? fun i => s.entries[i].waitsWrite).map .writeback

/-- FETCH: general entries in FETCH_WAIT, the lowest entry number first (R22). -/
def State.fetchWaiter (s : State) : Option Waiter :=
  ((List.finRange 12).find? fun i => s.entries[i].waitsFetch).map .fetch

/-- PASS: the head of the pass-through queue (R21). -/
def State.passWaiter (s : State) : Option Waiter :=
  match s.passQueue with
  | [] => none
  | p :: rest => some (.pass p rest)

/-- SHADOW: the engine's oldest write without a tag (R23). -/
def State.shadowWaiter (s : State) : Option Waiter :=
  match s.engine with
  | none => none
  | some sw =>
    match sw.waiting with
    | [] => none
    | w :: rest => some (.shadow sw w rest)

/-- LOG: the oldest record; incidents kept in BOOT are not offered (R23, R162). -/
def State.logWaiter (s : State) : Option Waiter :=
  match s.logQueue with
  | .record n i :: rest => some (.log n i rest)
  | _ => none

/-- SETUP: the lowest-numbered setup read not yet granted (R23). -/
def State.setupWaiter (s : State) : Option Waiter :=
  ((List.finRange 42).find? fun k => s.setup[k].waits).map .setup

/-- The waiter of a class. -/
def State.waiterOf (s : State) : PortClass → Option Waiter
  | .writeback => s.writebackWaiter
  | .fetch => s.fetchWaiter
  | .pass => s.passWaiter
  | .shadow => s.shadowWaiter
  | .log => s.logWaiter
  | .setup => s.setupWaiter

/-- The classes of an order, highest first (Table 2-2). -/
def PortOrder.classes : PortOrder → List PortClass
  | .a => [.writeback, .fetch, .pass, .shadow, .log, .setup]
  | .b => [.writeback, .shadow, .fetch, .pass, .log, .setup]

/-- The waiter of the highest class that has one (R24). -/
def State.nextWaiter (s : State) : Option Waiter := s.boot.portOrder.classes.findSome? s.waiterOf

/-- Whether a tag is FREE. -/
def TagState.isFree : TagState → Bool
  | .free => true
  | _ => false

/-- The lowest-numbered FREE tag (R24). -/
def State.freeTag (s : State) : Option DownTag := (List.finRange 32).find? fun t => s.tags[t].isFree

/-! ### Grants (R22, R24, R79, R164) -/

/-- The position of a log record: log base + (s mod 32) × 10h (R164). -/
def State.logLine (s : State) (sequence : BitVec 16) : LineAddr :=
  s.logBase + BitVec.ofNat 28 (sequence.toNat % Config.logLines)

/-- A write-back's data: the working copy at the grant, held bytes filled (R79). -/
def State.writeData (s : State) (h : Hold) (copy : Line) : Line :=
  match s.record h.window with
  | some r => r.fillHeld s.boot.polynomial copy
  | none => copy

/-- The waiter is granted tag `t`. -/
def State.grant (s : State) (t : DownTag) (w : Waiter) : State :=
  match w with
  | .writebackStatus =>
    match s.statusEntry with
    | .wbWait image =>
      { s with statusEntry := .writing image false (s.statusCopy s.tick) t }.issue t (.writeback .status)
        (s.controlLine 0) (fullWrite (s.statusCopy s.tick))
    | _ => s
  | .writebackCommand =>
    match s.commandEntry with
    | .wbWait image =>
      { s with commandEntry := .writing image false s.commandCopy t }.issue t (.writeback .command)
        (s.controlLine 1) (fullWrite s.commandCopy)
    | _ => s
  | .writeback i =>
    match s.entries[i] with
    | .wbWait h copy image mark =>
      (s.setEntry i (.writing h copy image mark false (s.writeData h copy) t)).issue t (.writeback (.general i)) h.line
        (fullWrite (s.writeData h copy))
    | _ => s
  | .fetch i =>
    match s.entries[i] with
    | .fetchWait h q => (s.setEntry i (.fetching h q t)).issue t (.fetch i) h.line .read
    | _ => s
  | .pass p rest => { s with passQueue := rest }.issue t (.pass p.tag) p.line p.body
  | .shadow sw w rest =>
    { s with engine := some (sw.granted t w rest) }.issue t (.shadow sw.window w.target) w.line (fullWrite w.data)
  | .log n i rest => { s with logQueue := rest }.issue t (.log n) (s.logLine n) (fullWrite (i.encode n))
  | .setup k => { s with setup := s.setup.set k .outstanding }.issue t (.setup k) (s.controlLine k.val) .read

/-! ### Outcomes handed to their origins (R28, R29, Table 2-3) -/

/-- The port's report for PASS, SHADOW and SETUP: the flag and one incident with the origin as detail; nothing for an
OKAY. -/
def State.reportOutcome (s : State) (window : Option WindowNo) (rec : TagRecord) (o : Outcome) : State :=
  if o.isOkay then s
  else (s.setPartFlag o.cause.flag).report o.cause.kind window (byteAddr rec.line) rec.origin.code

/-- A failed LOG write: LOG_DROPPED and its memory flag, with no incident (R28, R164). -/
def State.logWriteEnded (s : State) (o : Outcome) : State :=
  if o.isOkay then s else (s.setPartFlag o.cause.flag).setPartFlag .logDropped

/-- The upstream answer to a pass-through request: memory's result and, for an OKAY READ, its data; FAULT on expiry
(R16, R29). -/
def State.passAnswer (s : State) (tag : UpTag) (isWrite : Bool) (o : Outcome) : State :=
  match o with
  | .okay data => s.answer tag .okay (if isWrite then none else some data)
  | .refused => s.answer tag .refused none
  | .fault | .expired => s.answer tag .fault none

/-- What a setup read leaves with the Control Unit (R29). -/
def Outcome.slot : Outcome → SetupSlot
  | .okay data => .taken data
  | _ => .failed

/-- The outcome of the request that held tag `t` reaches its origin. -/
def State.deliver (s : State) (t : DownTag) (rec : TagRecord) (o : Outcome) : State :=
  match rec.origin with
  | .pass tag => (s.reportOutcome none rec o).passAnswer tag rec.isWrite o
  | .fetch i => s.fetchEnded i o
  | .writeback .status => s.statusWritebackEnded o
  | .writeback .command => s.commandWritebackEnded o
  | .writeback (.general i) => s.writebackEnded i o
  | .shadow w target => (s.reportOutcome (some w) rec o).shadowAnswered t target o.isOkay
  | .log _ => s.logWriteEnded o
  | .setup k =>
    let t' := s.reportOutcome none rec o
    { t' with setup := t'.setup.set k o.slot }

/-! ### Responses and expiry (R20, R26) -/

/-- The outcome a response carries (R176). -/
def outcomeOf (rsp : DownResponse) : Outcome :=
  match Result.ofCode rsp.code with
  | .okay => .okay rsp.data
  | .refused => .refused
  | .fault => .fault

/-- A response arrives: handed to its origin, or discarded; an OUTSTANDING or RETIRED tag becomes FREE (R20). While
RESET_N is low responses are discarded (R176). -/
def State.takeResponse (s : State) (rsp : DownResponse) : Option State :=
  if s.bootStage = .inReset then none
  else match s.tags[rsp.tag] with
  | .free => none
  | .retired => some (s.setTag rsp.tag .free)
  | .outstanding rec => some ((s.setTag rsp.tag .free).deliver rsp.tag rec (outcomeOf rsp))

/-- An OUTSTANDING request that the comparison at a tick increment found expired: its tag is RETIRED and its origin is
told of the failure (R26). -/
def State.expire (s : State) (t : DownTag) : Option State :=
  match s.tags[t] with
  | .outstanding rec => if rec.expired then some ((s.setTag t .retired).deliver t rec .expired) else none
  | _ => none

/-- The comparison of R26 for one tag, made at a tick increment under the limit in force. -/
def TagState.compare (limit : Nat) (tick : BitVec 32) : TagState → TagState
  | .outstanding rec =>
    .outstanding { rec with expired := limit != 0 && decide (limit < (tick - rec.issueTick).toNat) }
  | st => st

/-- The comparison made for every tag. -/
def State.compareTags (s : State) : State :=
  { s with tags := Vector.ofFn fun t => s.tags[t].compare s.boot.responseLimit s.tick }

end Sys2Proof.Machine
end

