-- ==== Sys2Proof/Machine/Settings.lean ====
section
/-!
DEFINITION. Judging the settings: the boot settings (R149), the status copy as BOOT forms it (R109), and in LOADING the
live copies, the window descriptors, the bindings and the chord setting, in that order (R152).
-/

namespace Sys2Proof.Machine

/-! ### Ranges (R42), in lines -/

/-- A range of lines: its first line and its length. -/
abbrev LineRange := Nat × Nat

/-- Whether two ranges share a line. -/
def rangesOverlap (a b : LineRange) : Bool := decide (max a.1 b.1 < min (a.1 + a.2) (b.1 + b.2))

/-- Whether a range lies in the 4 GiB space, its last line at most FFFF_FFF0h. -/
def rangeFits (a : LineRange) : Bool := decide (a.1 + a.2 ≤ Config.spaceLines)

/-- The 42 lines of the Control Area. -/
def State.controlRange (s : State) : LineRange := (s.controlBase.toNat, Config.controlLines)

/-- The log region, while the style in force is not OFF. -/
def State.logRange (s : State) : List LineRange :=
  if s.logStyle = .off then [] else [(s.logBase.toNat, Config.logLines)]

/-- A window's range. -/
def WindowRecord.range (r : WindowRecord) : LineRange := (r.base.toNat, r.length)

/-- A window's shadow region, if it has one. -/
def WindowRecord.shadowRange (r : WindowRecord) : List LineRange :=
  if r.shadowBase = 0 then [] else [(r.shadowBase.toNat, r.length + 1)]

/-! ### Boot settings (R149) -/

/-- Judges Control Area line 2. -/
def State.applyBootLine (s : State) : SetupSlot → State
  | .taken l =>
    let b := BootLine.parse l
    let t : State := { s with boot :=
      { protect := b.protect, startMode := b.startMode.getD .wait, keepStatus := b.keepStatus
        portOrder := b.portOrder, polynomial := b.polynomial, divider := b.divider.getD Config.defaultDivider
        responseLimit := b.responseLimit } }
    let u := if b.startMode.isNone then t.setupInvalid none (byteAddr (s.controlLine 2)) 0x02 else t
    if b.divider.isNone then u.setupInvalid none (byteAddr (s.controlLine 2)) 0x03 else u
  | _ =>
    let t : State := { s with boot := .reset }
    t.setupInvalid none (byteAddr (s.controlLine 2)) 0x01

/-- Judges Control Area line 3: the log style and base the Incident Log Unit takes. -/
def State.applyLogLine (s : State) : SetupSlot → State
  | .taken l =>
    let base := parseLogBase l
    let t : State := { s with logBase := base, logStyle := .off }
    match parseLogStyle l with
    | none => t.setupInvalid none (byteAddr (s.controlLine 3)) 0x02
    | some .off => t
    | some style =>
      if !rangeFits (base.toNat, Config.logLines) || rangesOverlap (base.toNat, Config.logLines) s.controlRange then
        t.setupInvalid none (byteAddr (s.controlLine 3)) 0x04
      else { t with logStyle := style }
  | _ =>
    let t : State := { s with logStyle := .off }
    t.setupInvalid none (byteAddr (s.controlLine 3)) 0x01

/-- BOOT judges lines 2 and 3 and applies the boot settings (R170 step 3). -/
def State.applyBootSettings (s : State) : State :=
  { (s.applyBootLine s.setup[2]).applyLogLine s.setup[3] with bootStage := .applied }

/-! ### The status copy and the command line as BOOT forms them (R109, R153, R162) -/

/-- Memory's line 0, where the starting copy is taken from it: after a warm reset with keep-status set and a setup read
that did not fail. -/
def State.keptLine (s : State) : Option Line :=
  match s.setup[0] with
  | .taken l => if s.resetKind = .warm ∧ s.boot.keepStatus then some l else none
  | _ => none

/-- The read-clear flags a status line carries. -/
def parseFlags (l : Line) : StatusFlags := ⟨fieldAt l 0 16, fieldAt l 2 16, (fieldAt l 4 16).setWidth 13⟩

/-- Flags raised in BOOT before the copy is formed are set in it as it is formed. -/
def StatusFlags.union (a b : StatusFlags) : StatusFlags :=
  ⟨a.window ||| b.window, a.sweepDone ||| b.sweepDone, a.part ||| b.part⟩

/-- The incident of a place of the log queue. -/
def LogEntry.incident : LogEntry → Incident
  | .kept i => i
  | .record _ i => i

/-- The starting copy: kept flags, log next sequence and held count, or all clear and zero. -/
def State.startStatus (s : State) : State :=
  match s.keptLine with
  | some l =>
    { s with
      flags := (parseFlags l).union s.flags
      logNext := fieldAt l 10 16
      logHeld := min (byteAt l 9).toNat Config.logLines }
  | none => { s with logNext := 0, logHeld := 0 }

/-- Pinned entries 0 and 1 are formed and placed in WB_WAIT, and the log unit takes the incidents it kept, each in turn
under R163. -/
def State.formPinned (s : State) : State :=
  let formed : State := { s.startStatus with
    bootStage := .formed
    statusEntry := .wbWait none
    statusWritten := false
    command := .reset
    commandEntry := .wbWait none
    commandWritten := false
    logQueue := [] }
  (s.logQueue.map LogEntry.incident).foldl State.takeIncident formed

/-! ### Entering LOADING (R152, R172 step 1) -/

/-- LOADING begins: the fell-to-default mark is cleared and setup reads of lines 4 to 41 are placed. -/
def State.enterLoading (s : State) : State :=
  { s with
    fellToDefault := false
    setup := Vector.ofFn fun k => if 4 ≤ k.val then .waiting else s.setup[k] }.enter .loading

/-- Whether a setup read has ended. -/
def SetupSlot.ended : SetupSlot → Bool
  | .taken _ => true
  | .failed => true
  | _ => false

/-! ### Live settings (R150) -/

/-- Judges the masks: every pattern is valid; a line that was not read falls to 0. -/
def State.judgeMasks (s : State) : State :=
  match s.setup[4] with
  | .taken l => { s with live.masks := l }
  | _ =>
    let t : State := { s with live.masks := 0 }
    t.setupInvalid none (byteAddr (s.controlLine 4)) 0x01

/-- The Control Area line that holds a window's interval field. -/
def intervalLine (w : WindowNo) : Nat := if w.val < 8 then 5 else 6

/-- Judges one interval of the copies; 1–9 is invalid. -/
def State.judgeInterval (s : State) (w : WindowNo) : State :=
  if intervalInvalid (s.live.intervalField w) then
    s.setupInvalid (some w) (byteAddr (s.controlLine (intervalLine w))) 0x03
  else s

/-- Judges the intervals of lines 5 and 6 in window order; a line that was not read falls to 0 with one incident. -/
def State.judgeIntervals (s : State) : State :=
  let low := match s.setup[5] with
    | .taken l => ((List.finRange 16).take 8).foldl State.judgeInterval { s with live.intervalsLow := l }
    | _ =>
      let t : State := { s with live.intervalsLow := 0 }
      t.setupInvalid none (byteAddr (s.controlLine 5)) 0x01
  match s.setup[6] with
  | .taken l => ((List.finRange 16).drop 8).foldl State.judgeInterval { low with live.intervalsHigh := l }
  | _ =>
    let t : State := { low with live.intervalsHigh := 0 }
    t.setupInvalid none (byteAddr (s.controlLine 6)) 0x01

/-! ### Window descriptors (R40 to R44) -/

/-- The ranges and shadow regions of the windows valid so far; validation goes in window order, so they are the valid
lower-numbered ones. -/
def State.windowRanges (s : State) : List LineRange :=
  (List.finRange 16).flatMap fun w =>
    match s.record w with
    | some r => r.range :: r.shadowRange
    | none => []

/-- The ranges that count in the overlap tests (R40), but for the window's own. -/
def State.countedRanges (s : State) : List LineRange := s.controlRange :: s.logRange ++ s.windowRanges

/-- The field code of the first test of Table 3-6 that holds for a parsed descriptor, after tests 1 and 2. -/
def State.recordFault (s : State) (r : WindowRecord) : Option (BitVec 32) :=
  if r.length = 0 ∨ Config.maxWindowLength < r.length ∨ !rangeFits r.range then some 0x03
  else if r.function = .extreme ∧ r.format = .u32 then some 0x04
  else if !r.thresholdInRange then some 0x05
  else if s.countedRanges.any (rangesOverlap r.range) then some 0x06
  else if r.shadowRange.any (fun q => !rangeFits q || (r.range :: s.countedRanges).any (rangesOverlap q)) then some 0x07
  else if r.shadowBase = 0
      ∧ ((r.intervalAction.any fun a => a != .clear) || (r.chordAction.any fun a => a != .clear)) then some 0x08
  else none

/-- A disabled window: its record is not loaded (R44). -/
def State.disableWindow (s : State) (w : WindowNo) (code : BitVec 32) : State :=
  s.setupInvalid (some w) (byteAddr (s.controlLine (10 + 2 * w.val))) code

/-- Validates window `w` against the windows below it. -/
def State.judgeWindow (s : State) (w : WindowNo) : State :=
  match s.setup[10 + 2 * w.val]'(by omega), s.setup[11 + 2 * w.val]'(by omega) with
  | .taken first, .taken second =>
    if descriptorUnused first then s
    else match parseDescriptor first second with
    | none => s.disableWindow w 0x02
    | some r =>
      match s.recordFault r with
      | some code => s.disableWindow w code
      | none => s.setWindow w { s.windows[w] with record := some r }
  | _, _ => s.disableWindow w 0x01

/-- Builds the Window Table: emptied, every crossing-armed flag set and every sequence 0, then validated in window order
(R46). -/
def State.judgeWindows (s : State) : State :=
  (List.finRange 16).foldl State.judgeWindow
    { s with windows := Vector.replicate 16 { record := none, armed := true, sequence := 0 } }

/-! ### Bindings and the chord (R129, R130) -/

/-- The field code of the first test of Table 8-4 that holds, or the binding in force. -/
def State.bindingOf (s : State) (b : BindingFields) : Except (BitVec 32) Binding :=
  match b.edge with
  | none => .error 0x02
  | some edge =>
    if b.increment = 0 then .error 0x03
    else match s.windowOf b.target with
    | none => .error 0x04
    | some w =>
      match s.record w with
      | none => .error 0x04
      | some r =>
        if r.function ≠ .accumulate then .error 0x05
        else if r.dataLanes ≤ b.lane.toNat then .error 0x06
        else .ok ⟨edge, b.debounce, b.target, b.lane, b.increment, w⟩

/-- The Control Area line that holds an input's binding. -/
def bindingLine (n : InputNo) : Nat := 7 + n.val / 2

/-- An invalid binding: not in force; the incident's address carries the input number. -/
def State.disableBinding (s : State) (n : InputNo) (code : BitVec 32) : State :=
  { s with bindings := s.bindings.set n none }.setupInvalid none
    (s.controlLine (bindingLine n) ++ BitVec.ofNat 4 n.val) code

/-- Judges the binding of input `n`. -/
def State.judgeBinding (s : State) (n : InputNo) : State :=
  match s.setup[7 + n.val / 2]'(by omega) with
  | .taken l =>
    let b := BindingFields.parse l (8 * (n.val % 2))
    if !b.enable then { s with bindings := s.bindings.set n none }
    else match s.bindingOf b with
    | .error code => s.disableBinding n code
    | .ok binding => { s with bindings := s.bindings.set n (some binding) }
  | _ => s.disableBinding n 0x01

/-- Judges the four bindings in input order. -/
def State.judgeBindings (s : State) : State := (List.finRange 4).foldl State.judgeBinding s

/-- Judges the chord setting. -/
def State.judgeChord (s : State) : State :=
  match s.setup[9] with
  | .taken l =>
    let c := parseChord l
    if c.members ≠ 0 ∧ ¬(1000 ≤ c.holdTime ∧ c.holdTime ≤ 10000) then
      { s with chord := { c with members := 0 } }.setupInvalid none (byteAddr (s.controlLine 9)) 0x07
    else { s with chord := c }
  | _ => { s with chord := .none }.setupInvalid none (byteAddr (s.controlLine 9)) 0x01

/-! ### Building the armed tables (R172 steps 2 to 6) -/

/-- The settings judged in the order of R152, and the tables built from them. -/
def State.judgeAll (s : State) : State :=
  s.judgeMasks.judgeIntervals.judgeWindows.judgeBindings.judgeChord

/-- The interval counter a window starts with: its interval in force if it is in service, else 0 (R143). -/
def State.loadedInterval (s : State) (w : WindowNo) : Nat :=
  match s.inService w with
  | some _ => s.live.interval w
  | none => 0

/-- Step 4: the Suspect Line List emptied and the interval counters loaded. -/
def State.loadCounters (s : State) : State :=
  { s with suspects := [], intervals := Vector.ofFn s.loadedInterval, intervalDue := 0 }

/-- The Event Input Unit's run state as it starts again at each arming and is discarded when the part leaves ACTIVE
(R119, R131). -/
def State.resetInputs (s : State) : State :=
  { s with
    levels := none
    inputs := Vector.replicate 4 .reset
    chordTimer := 0
    chordFired := false
    servicePos := 0
    eventClaim := none
    newCounts := 0 }

/-- The arming's result (R152). -/
def State.armingResult (s : State) : CommandResult := if s.fellToDefault then .setupWarn else .ok

/-- The arming's result is written: as the ARM command's, or into the command line of an arming begun in BOOT
(R152, R155). -/
def State.writeArmingResult (s : State) : State :=
  if s.command.state = .running then s.completeCommand s.armingResult
  else { s with command.result := s.armingResult }

/-- Steps 2 to 6 of LOADING. -/
def State.completeLoading (s : State) : State :=
  let built := s.judgeAll.loadCounters.resetInputs
  let swept := built.handSweeps (built.requestsFor .arm fun r => if r.clearAtArm then some .clear else none)
  { swept with wasActive := true }.writeArmingResult.enter .active

end Sys2Proof.Machine
end

