-- ==== Sys2Proof/Machine/Events.lean ====
section
/-!
DEFINITION. The Event Input Unit (chapter 8): sampling and debounce, edges and pending counts, stuck detection, the
chord, and the claim it makes.
-/

namespace Sys2Proof.Machine

/-! ### Settings in force -/

/-- The binding in force of an input. -/
def State.binding (s : State) (n : InputNo) : Option Binding := s.bindings[n]

/-- The debounce time in ticks of a code: 0, 1, 2, 4, 8, 16, 32, 64 (R121). -/
def debounceTicks (code : BitVec 3) : Nat := if code = 0 then 0 else 2 ^ (code.toNat - 1)

/-- The debounce time of an input, 0 where its binding is not in force (R121). -/
def State.debounceTime (s : State) (n : InputNo) : Nat :=
  match s.binding n with
  | some b => debounceTicks b.debounce
  | none => 0

/-- The stuck limit in force in ticks; 0 is off (R125). -/
def State.stuckTicks (s : State) : Nat := 100 * s.chord.stuckLimit

/-- Whether every member of the chord is active under the given levels; a chord with no member does not exist (R127). -/
def State.chordHeld (s : State) (levels : BitVec 4) : Bool :=
  s.chord.members != 0 && s.chord.members &&& levels == s.chord.members

/-- Changes one input's counts. -/
def State.setInput (s : State) (n : InputNo) (i : InputState) : State := { s with inputs := s.inputs.set n i }

/-! ### What is due at the present sample -/

/-- A debounce count has reached D + 1, so the input's change is to be accepted (R121). -/
def State.changeDue (s : State) (n : InputNo) : Bool :=
  s.partState == .active && s.levels.isSome && s.inputs[n].debounceCount == s.debounceTime n + 1

/-- The stuck timer of a PRESSED input has reached the limit (R125). -/
def State.stuckDue (s : State) (n : InputNo) : Bool :=
  s.partState == .active && s.stuckTicks != 0 && (s.binding n).isSome && s.inputs[n].stuck == .pressed
    && s.inputs[n].stuckTimer == s.stuckTicks

/-- The chord timer has reached the hold time with every member active and the flag clear (R127). -/
def State.chordDue (s : State) : Bool :=
  s.partState == .active && !s.chordFired && s.levels.any s.chordHeld && s.chordTimer == s.chord.holdTime

/-- Whether an edge field matches a change. -/
def Edge.counts : Edge → (isRise : Bool) → Bool
  | .rising, isRise => isRise
  | .falling, isRise => !isRise
  | .both, _ => true

/-- Whether a change of the input, rising or falling, is counted as an edge: it matches the binding's edge field and the
input is not STUCK (R122, R126). -/
def State.edgeCounts (s : State) (n : InputNo) (rising : Bool) : Bool :=
  match s.binding n with
  | some b => b.edge.counts rising && s.inputs[n].stuck != .stuck
  | none => false

/-- A change to be accepted at the present sample is to be counted as an edge. -/
def State.edgeDue (s : State) (n : InputNo) : Bool :=
  s.changeDue n && s.levels.any fun v => s.edgeCounts n !v.getLsbD n.val

/-! ### Claims (R123) -/

/-- The inputs in the order of search from the service position, wrapping from 3 to 0. -/
def searchOrder (pos : InputNo) : List InputNo := [pos, pos + 1, pos + 2, pos + 3]

/-- Whether an input of a binding in force has a count to be claimed. The counts that leave 0 at one sample do so
together (R123), so while an edge of the present sample is still to be counted (notes/assumptions/7.md) they do not
stand yet. -/
def State.claimable (s : State) (n : InputNo) : Bool :=
  (s.binding n).isSome && decide (0 < s.inputs[n].pending)
    && !(s.newCounts.getLsbD n.val && (List.finRange 4).any s.edgeDue)

/-- The unit makes a claim if it holds none and an input has a count to be claimed: the first from the service position
on. -/
def State.makeClaim (s : State) : State :=
  if s.eventClaim.isSome then s else { s with eventClaim := (searchOrder s.servicePos).find? s.claimable }

/-! ### Edges and stuck states (R122, R125, R126) -/

/-- A counted edge: the pending count rises, marked where it leaves 0, or the edge is lost at 15 with EVENT_LOST. -/
def State.countEdge (s : State) (n : InputNo) (b : Binding) : State :=
  let i := s.inputs[n]
  if i.pending < Config.maxPending then
    { s.setInput n { i with pending := i.pending + 1 } with
      newCounts := if i.pending = 0 then s.newCounts ||| (1#4 <<< n.val) else s.newCounts }
  else (s.setPartFlag .eventLost).report .eventLost (some b.window) (byteAddr b.target) (b.increment.setWidth 32)

/-- The stuck state after an accepted change (Table 8-3). -/
def InputState.afterChange (i : InputState) (rising : Bool) : InputState :=
  if rising then { i with stuck := .pressed, stuckTimer := 0 } else { i with stuck := .inactive }

/-- The chord after an accepted change of a member: just become all active, or a member inactive (R127). -/
def State.chordAfterChange (s : State) (before after : BitVec 4) : State :=
  if s.chordHeld after then
    if !s.chordHeld before && !s.chordFired then { s with chordTimer := 0 } else s
  else { s with chordTimer := 0, chordFired := false }

/-- An accepted change: the debounced level takes the sampled level and the count returns to 0; the change is handed to
edge counting, the stuck state and the chord; then the unit may make a claim (R121 to R123). -/
def State.acceptChange (s : State) (n : InputNo) (levels : BitVec 4) : State :=
  let rising := !levels.getLsbD n.val
  let after := levels ^^^ (1#4 <<< n.val)
  let i : InputState := s.inputs[n]
  let s1 : State := { s with levels := some after }.setInput n { i with debounceCount := 0 }
  let s2 := match s.binding n with
    | none => s1
    | some b =>
      let counted := if s.edgeCounts n rising then s1.countEdge n b else s1
      counted.setInput n (counted.inputs[n].afterChange rising)
  (if s.chord.members.getLsbD n.val then s2.chordAfterChange levels after else s2).makeClaim

/-- An input enters STUCK (R125). -/
def State.enterStuck (s : State) (n : InputNo) (b : Binding) : State :=
  ((s.setInput n { s.inputs[n] with stuck := .stuck }).setPartFlag .eventStuck).report .eventStuck (some b.window)
    (byteAddr b.target) (BitVec.ofNat 32 n.val)

/-- The chord fires: the flag is set and the requests are handed (R127, R128). -/
def State.fireChord (s : State) : State :=
  { s with chordFired := true }.handSweeps (s.requestsFor .chord (·.chordAction))

/-! ### Samples (R120, R121, R125, R127) -/

/-- The arming sample: debounced levels set, no edge; an active input of a binding in force is PRESSED. -/
def State.armingSample (s : State) (sampled : BitVec 4) : State :=
  { s with
    levels := some sampled
    inputs := Vector.ofFn fun n =>
      { s.inputs[n] with
        debounceCount := 0
        stuck := if sampled.getLsbD n.val && (s.binding n).isSome then .pressed else .inactive
        stuckTimer := 0 }
    chordTimer := 0 }

/-- The debounce count after a sample that shows `sampled` against the debounced level `level`. -/
def debounced (sampled level : Bool) (count : Nat) : Nat := if sampled == level then 0 else count + 1

/-- One input after a sample: its debounce count, and its stuck timer where it is PRESSED and stays active at this
sample. -/
def State.sampledInput (s : State) (sampled levels : BitVec 4) (n : InputNo) : InputState :=
  let i := s.inputs[n]
  let count := debounced (sampled.getLsbD n.val) (levels.getLsbD n.val) i.debounceCount
  { i with
    debounceCount := count
    stuckTimer :=
      if i.stuck == .pressed && s.stuckTicks != 0 && count != s.debounceTime n + 1 then i.stuckTimer + 1
      else i.stuckTimer }

/-- The chord timer after a sample. A member whose change this sample accepts leaves it to that change. -/
def State.sampledChord (s : State) (levels : BitVec 4) : Nat :=
  if s.chordHeld levels then
    if !s.chordFired && (List.finRange 4).all (fun n => !(s.chord.members.getLsbD n.val && s.changeDue n)) then
      s.chordTimer + 1
    else s.chordTimer
  else s.chordTimer

/-- A sample in ACTIVE: the arming sample, or a sample handled under R121 to R127. -/
def State.sample (s : State) (sampled : BitVec 4) : State :=
  match s.levels with
  | none => s.armingSample sampled
  | some levels =>
    let t : State := { s with inputs := Vector.ofFn (s.sampledInput sampled levels) }
    { t with chordTimer := t.sampledChord levels }

end Sys2Proof.Machine
end

