-- ==== Sys2Proof/Machine/Claims.lean ====
section
/-!
DEFINITION. The allocation arbiter (R88 to R91): when the claims of the three internal claimants can be taken, the
claimant order, and the taking of a claim.
-/

namespace Sys2Proof.Machine

/-! ### Claims and their order (R88, R89)

A claim whose need is available is taken at once, so a claim is taken, and a waiting head examined again, only while no
claimant before it in the order of R89 has a claim that can be taken: Sweep Engine, Control Unit, Event Input Unit,
Upstream Port. -/

/-- The line of the sweep's next index (R137). -/
def Sweep.claimLine (sw : Sweep) (r : WindowRecord) : LineAddr := r.base + BitVec.ofNat 28 sw.nextIndex

/-- Whether the Sweep Engine has a claim that can be taken. A listed line makes a copying item need nothing (R102) and a
CLEAR item need a FREE entry (R103). -/
def State.sweepReady (s : State) : Bool :=
  match s.engine with
  | none => false
  | some sw =>
    match s.record sw.window with
    | none => false
    | some r =>
      sw.inFlight == .claimWaiting &&
        if s.listed (sw.claimLine r) then sw.action != .clear || s.freeEntry.isSome
        else (s.place (sw.claimLine r)).available

/-- Whether the Control Unit has a claim that can be taken: a listed line needs a FREE entry, a line no longer listed
nothing (R85). -/
def State.repairReady (s : State) : Bool :=
  match s.releaseClaim with
  | none => false
  | some l => !s.listed l || s.freeEntry.isSome

/-- Whether the Event Input Unit has a claim that can be taken: a listed line needs nothing (R101). -/
def State.eventReady (s : State) : Bool :=
  match s.eventClaim with
  | none => false
  | some n =>
    match s.binding n with
    | none => false
    | some b => s.listed b.target || (s.place b.target).available

/-- Whether some internal claimant has a claim that can be taken. -/
def State.claimsReady (s : State) : Bool := s.sweepReady || s.repairReady || s.eventReady

/-! ### The Event Input Unit's claim (R101, R123) -/

/-- The value the claim carries: the pending count times the increment. -/
def State.eventValue (s : State) (n : InputNo) (b : Binding) : Nat := s.inputs[n].pending * b.increment.toNat

/-- The EVENT UPDATE: the value as a pattern in the binding's lane, zero in the others, that lane alone enabled. -/
def State.eventItem (s : State) (n : InputNo) (b : Binding) (r : WindowRecord) : Item :=
  .update .event (writeLane r.format.width b.lane.toNat (s.eventValue n b) 0) (1#8 <<< b.lane.toNat)

/-- The unit when its claim is taken: the pending count is 0, the service position the next input, no claim held. -/
def State.eventServed (s : State) (n : InputNo) : State :=
  { s.setInput n { s.inputs[n] with pending := 0 } with eventClaim := none, servicePos := n + 1 }

/-- The increments of a claim whose line is listed are lost (R101). -/
def State.eventDiscarded (s : State) (n : InputNo) (b : Binding) : State :=
  ((s.eventServed n).setPartFlag .eventLost).report .eventLost (some b.window) (byteAddr b.target)
    (BitVec.ofNat 32 (s.eventValue n b))

/-- The arbiter takes the Event Input Unit's claim; the unit then looks for the next input. -/
def State.takeEventClaim (s : State) : Option State :=
  match s.eventClaim with
  | none => none
  | some n =>
    match s.binding n with
    | none => none
    | some b =>
      if !s.eventReady || s.sweepReady || s.repairReady then none
      else if s.listed b.target then some (s.eventDiscarded n b).makeClaim
      else (s.record b.window).map fun r =>
        ((s.eventServed n).accept ⟨b.target, b.window⟩ (s.eventItem n b r)).makeClaim

/-! ### The Sweep Engine's claim (R72, R102, R103, R137) -/

/-- The SWEEP item of the sweep's next line. -/
def Sweep.item (sw : Sweep) : Item := .sweep sw.action sw.sequence sw.nextIndex

/-- A CLEAR item opens its entry without a fetch where no entry holds its line, listed or not. -/
def State.acceptSweepItem (s : State) (sw : Sweep) (r : WindowRecord) : State :=
  let t : State := { s with engine := some { sw with inFlight := .accepted } }
  let h : Hold := ⟨sw.claimLine r, sw.window⟩
  match s.place h.line with
  | .openAt i => if sw.action = .clear then t.openCleared i h r sw.item false else t.openFetch i h sw.item
  | _ => t.accept h sw.item

/-- The arbiter takes the Sweep Engine's claim. -/
def State.takeSweepClaim (s : State) : Option State :=
  match s.engine with
  | none => none
  | some sw =>
    match s.record sw.window with
    | none => none
    | some r =>
      if !s.sweepReady then none
      else if s.listed (sw.claimLine r) && sw.action != .clear then some (s.resolveItem sw.nextIndex .skipped)
      else some (s.acceptSweepItem sw r)

/-! ### The Control Unit's claim (R85, R104, R159) -/

/-- The UPDATE of origin CMD: no lane, no value. -/
def cmdItem : Item := .update .cmd 0 0

/-- The arbiter takes the Control Unit's claim. -/
def State.takeReleaseClaim (s : State) : Option State :=
  match s.releaseClaim with
  | none => none
  | some l =>
    if !s.repairReady || s.sweepReady then none
    else
      let t : State := { s with releaseClaim := none }
      if s.listed l then
        match s.freeEntry, s.windowOf l with
        | some i, some w => (s.record w).map fun r => t.openCleared i ⟨l, w⟩ r cmdItem true
        | _, _ => none
      else some (t.completeCommand .notFound)

end Sys2Proof.Machine
end

