-- ==== Sys2Proof/Machine/Commands.lean ====
section
/-!
DEFINITION. The commands the Control Unit carries out (R154 to R160) and the settings it takes from accepted writes
(R17, R144, R150, R151).
-/

namespace Sys2Proof.Machine

/-! ### Commands -/

/-- ARM: to LOADING in PASS, the command staying RUNNING (R155). -/
def State.runArm (s : State) : State :=
  if s.partState = .pass then s.enterLoading else s.completeCommand .wrongState

/-- DISARM: to DRAINING in ACTIVE, the command staying RUNNING; the sweep is abandoned, the event inputs drop their
counts and the interval counters stop (R156, R173). -/
def State.runDisarm (s : State) : State :=
  if s.partState = .active then { s.abandonSweeps.resetInputs with intervalDue := 0 }.enter .draining
  else s.completeCommand .wrongState

/-- The window a command's window byte names, if it is 0–15. -/
def windowNamed (b : Byte) : Option WindowNo := if h : b.toNat < 16 then some ⟨b.toNat, h⟩ else none

/-- Every valid window's crossing-armed flag is set. -/
def State.rearmAll (s : State) : State :=
  { s with windows := Vector.ofFn fun w =>
      if s.windows[w].record.isSome then { s.windows[w] with armed := true } else s.windows[w] }

/-- REARM (R115, R157). -/
def State.runRearm (s : State) (window : Byte) : State :=
  if s.partState ≠ .active then s.completeCommand .wrongState
  else if window = 0xFF then s.rearmAll.completeCommand .ok
  else match windowNamed window with
  | none => s.completeCommand .badWindow
  | some w =>
    if (s.record w).isSome then (s.setWindow w { s.windows[w] with armed := true }).completeCommand .ok
    else s.completeCommand .noWindow

/-- Whether a window is eligible for a commanded sweep: in service and, to be copied, with a shadow (R158). -/
def State.eligible (s : State) (a : SweepAction) (w : WindowNo) : Bool :=
  match s.inService w with
  | none => false
  | some r => a == .clear || r.shadowBase != 0

/-- Hands requests in order and says whether one of them was dropped. -/
def State.handCounted (s : State) (qs : List SweepRequest) : State × Bool :=
  qs.foldl (fun acc q => (acc.1.handSweep q, acc.2 || acc.1.dropsSweep q)) (s, false)

/-- SWEEP's requests for the eligible windows among those named, and its result. -/
def State.handCommanded (s : State) (a : SweepAction) (named : List WindowNo) : State :=
  let qs := (named.filter (s.eligible a)).map fun w => ⟨w, a, .command⟩
  let handed := s.handCounted qs
  handed.1.completeCommand (if qs.isEmpty then .notSweepable else if handed.2 then .overrun else .ok)

/-- SWEEP (R158). -/
def State.runSweep (s : State) (window action : Byte) : State :=
  if s.partState ≠ .active then s.completeCommand .wrongState
  else match SweepAction.ofCode action with
  | none => s.completeCommand .badAction
  | some a =>
    if window = 0xFF then s.handCommanded a (List.finRange 16)
    else match windowNamed window with
    | none => s.completeCommand .badWindow
    | some w => s.handCommanded a [w]

/-- RELEASE: a claim for a listed line, else NOT_FOUND (R159). -/
def State.runRelease (s : State) (argument : ByteAddr) : State :=
  if s.partState ≠ .active then s.completeCommand .wrongState
  else if s.listed (lineOf argument) then { s with releaseClaim := some (lineOf argument) }
  else s.completeCommand .notFound

/-- LOG_RESET (R160, R166). -/
def State.runLogReset (s : State) : State := { s with logHeld := 0 }.completeCommand .ok

/-- The command named by the code is carried out (R153, R154). -/
def State.runCommand (s : State) (c : CommandLine) : State :=
  if c.code = 0x01 then s.runArm
  else if c.code = 0x02 then s.runDisarm
  else if c.code = 0x03 then s.runRearm c.window
  else if c.code = 0x04 then s.runSweep c.window c.action
  else if c.code = 0x05 then s.runRelease c.argument
  else if c.code = 0x06 then s.runLogReset
  else s.completeCommand .badCommand

/-- The command line when a write is taken as a command: bytes 0–7 of the write, NONE, RUNNING, the count one more
(R13, R153). -/
def CommandLine.take (c : CommandLine) (data : Line) : CommandLine where
  code := byteAt data 0
  window := byteAt data 1
  action := byteAt data 2
  swTag := byteAt data 3
  argument := fieldAt data 4 32
  result := .none
  state := .running
  count := c.count + 1

/-! ### Settings taken from accepted writes -/

/-- The windows of line 5 or 6 whose interval field the write enables at least one byte of, in window order (R144). -/
def touchedWindows (line : Nat) (enables : Enables) : List WindowNo :=
  (List.finRange 16).filter fun w => intervalLine w == line && enables.extractLsb' (2 * (w.val % 8)) 2 != 0

/-- A window's counter restarts from the interval in force; 0 where it is not in service. An expiry of the last tick
increment still to be taken stands: its request counts as handed (R143, R144; notes/assumptions/7.md). -/
def State.restartInterval (s : State) (w : WindowNo) : State :=
  { s with intervals := s.intervals.set w (s.loadedInterval w) }

/-- The changed intervals are judged and their counters restarted. -/
def State.takeIntervals (s : State) (line : Nat) (enables : Enables) : State :=
  (touchedWindows line enables).foldl (fun acc w => (acc.judgeInterval w).restartInterval w) s

/-- What the Control Unit takes from a write accepted to Control Area line `k`: the protect setting from line 2, and in
ACTIVE the live settings from lines 4 to 6. -/
def State.takeSetting (s : State) (k : Nat) (enables : Enables) (data : Line) : State :=
  if k = 2 then
    if enables.getLsbD 0 then { s with boot.protect := data.getLsbD 0 } else s
  else if s.partState ≠ .active then s
  else if k = 4 then { s with live.masks := mergeBytes enables data s.live.masks }
  else if k = 5 then
    { s with live.intervalsLow := mergeBytes enables data s.live.intervalsLow }.takeIntervals 5 enables
  else if k = 6 then
    { s with live.intervalsHigh := mergeBytes enables data s.live.intervalsHigh }.takeIntervals 6 enables
  else s

end Sys2Proof.Machine
end

