-- ==== Sys2Proof/Machine/Upstream.lean ====
section
/-!
DEFINITION. The Upstream Port and the Window Decoder: arrival, the examination of the head, refusals, answers and
acceptance (chapter 1).
-/

namespace Sys2Proof.Machine

/-! ### Classification (Table 1-1) -/

/-- Address classes. -/
inductive AddrClass where
  | status
  | command
  | control (k : Fin 42)
  | log
  | shadow
  | window (w : WindowNo)
  | pass
  deriving DecidableEq, Repr

/-- The number of a Control Area line. -/
def State.controlIndex (s : State) (l : LineAddr) : Option (Fin 42) :=
  if h : (l - s.controlBase).toNat < 42 then some ⟨(l - s.controlBase).toNat, h⟩ else none

/-- Whether a line is a record line of the log region. -/
def State.inLog (s : State) (l : LineAddr) : Bool := s.logStyle != .off && lineIn s.logBase Config.logLines l

/-- Whether a line lies in a shadow region; the class exists in ACTIVE. -/
def State.inShadow (s : State) (l : LineAddr) : Bool :=
  s.partState == .active && (List.finRange 16).countP (s.shadowHolds l) != 0

/-- The first class of Table 1-1 that contains the line. -/
def State.classify (s : State) (l : LineAddr) : AddrClass :=
  match s.controlIndex l with
  | some k => if k.val = 0 then .status else if k.val = 1 then .command else .control k
  | none =>
    if s.inLog l then .log
    else if s.inShadow l then .shadow
    else if s.partState = .active then
      match s.windowOf l with
      | some w => .window w
      | none => .pass
    else .pass

/-! ### Leaving the port -/

/-- The head leaves the port. -/
def State.leave (s : State) : State := { s with head := none }

/-- A request answered at examination, its tag never in the outstanding-tag set. -/
def State.answerHead (s : State) (q : UpRequest) (result : Result) (data : Option Line) : State :=
  s.leave.respond q.tag result data

/-- A refusal: REFUSED at once, the REFUSAL flag and one REFUSED incident (R10). -/
def State.refuse (s : State) (q : UpRequest) (window : Option WindowNo) (reason : Reason) : State :=
  ((s.answerHead q .refused none).setPartFlag .refusal).report .refused window (byteAddr (lineOf q.addr)) reason.code

/-! ### Pass-through requests (R14, R16) -/

/-- Accepted into the pass-through queue, the tag joining the outstanding-tag set. -/
def State.acceptPass (s : State) (q : UpRequest) : State :=
  { s.leave.addOutstanding q.tag with passQueue := s.passQueue ++ [⟨q.tag, lineOf q.addr, q.body⟩] }

/-- A pass-through request is accepted while a place is free, else it stalls. -/
def State.servePass (s : State) (q : UpRequest) : State :=
  if s.passQueue.length < Config.passQueuePlaces then s.acceptPass q else s

/-- A request for Control Area line `k`, 2 to 41 (R7, R10, R17). -/
def State.serveControl (s : State) (q : UpRequest) (k : Nat) : State :=
  match q.body with
  | .read => s.servePass q
  | .write enables data =>
    if s.boot.protect ∧ 3 ≤ k then s.refuse q none .protect
    else if s.passQueue.length < Config.passQueuePlaces then (s.acceptPass q).takeSetting k enables data
    else s

/-- A request for a line the bridge writes itself, but for the status line (R8). -/
def State.servePartOwned (s : State) (q : UpRequest) : State :=
  match q.body with
  | .read => s.servePass q
  | .write .. => s.refuse q none .partOwned

/-! ### The pinned lines (R7, R13, R111) -/

/-- A request for the status line: a READ is answered and clears the flags it returns; a WRITE is refused. -/
def State.serveStatus (s : State) (q : UpRequest) : State :=
  match q.body with
  | .read => (s.answerHead q .okay (some (s.statusCopy s.tick))).clearFlags
  | .write .. => s.refuse q none .partOwned

/-- Whether a write enables every one of bytes 0–7. -/
def enablesCommand (enables : Enables) : Bool := enables.extractLsb' 0 8 == 0xFF

/-- A write taken as a command: answered OKAY, the command line changed, the command carried out. -/
def State.takeCommand (s : State) (q : UpRequest) (data : Line) : State :=
  let t : State := { s.answerHead q .okay none with command := s.command.take data }
  t.runCommand t.command

/-- A request for the command line. -/
def State.serveCommand (s : State) (q : UpRequest) : State :=
  match q.body with
  | .read => s.answerHead q .okay (some s.commandCopy)
  | .write enables data =>
    if s.command.state = .running then s.refuse q none .commandBusy
    else if !enablesCommand enables then s.refuse q none .commandShort
    else s.takeCommand q data

/-! ### Window lines (R9 to R12, R14) -/

/-- The lane tests of R11 in order. -/
def WindowRecord.laneRefusal (r : WindowRecord) (enables : Enables) : Option Reason :=
  if r.format.splits enables then some .laneSplit
  else if r.touchesCheck enables then some .checkLane
  else if r.touchesOdd (r.format.laneSet enables) then some .oddLane
  else none

/-- Whether the head's item can be accepted now: its need is available and no other claimant, each of which comes first,
has a claim that can be taken (R14, R88, R89). -/
def State.headTakeable (s : State) (l : LineAddr) : Bool := (s.place l).available && !s.claimsReady

/-- Whether an item would wait in a queue rather than be applied at acceptance. -/
def State.waitsForFetch (s : State) (l : LineAddr) : Bool :=
  match s.place l with
  | .apply _ => false
  | _ => true

/-- The WRITE's UPDATE is accepted and posted, or the head stalls. -/
def State.postUpdate (s : State) (q : UpRequest) (h : Hold) (data : Line) (lanes : BitVec 8) : State :=
  if s.headTakeable h.line then (s.answerHead q .okay none).accept h (.update .up data lanes) else s

/-- The READ is accepted, its tag outstanding while it waits for a fetch, or the head stalls. -/
def State.postRead (s : State) (q : UpRequest) (h : Hold) : State :=
  if s.headTakeable h.line then
    (if s.waitsForFetch h.line then s.leave.addOutstanding q.tag else s.leave).accept h (.read q.tag)
  else s

/-- A request for a line of window `w`. -/
def State.serveWindow (s : State) (q : UpRequest) (w : WindowNo) (r : WindowRecord) : State :=
  let l := lineOf q.addr
  match q.body with
  | .read => if s.listed l then s.answerHead q .fault none else s.postRead q ⟨l, w⟩
  | .write enables data =>
    if enables = 0 then s.answerHead q .okay none
    else match r.laneRefusal enables with
    | some reason => s.refuse q (some w) reason
    | none =>
      if s.listed l then s.refuse q (some w) .suspect
      else s.postUpdate q ⟨l, w⟩ data (r.format.laneSet enables)

/-! ### Examination (R3 to R5) -/

/-- The head is examined: the tag test, then its class. -/
def State.examine (s : State) (q : UpRequest) : State :=
  if s.outstanding.contains q.tag then s.refuse q none .tagInUse
  else match s.classify (lineOf q.addr) with
  | .status => s.serveStatus q
  | .command => s.serveCommand q
  | .control k => s.serveControl q k.val
  | .log => s.servePartOwned q
  | .shadow => s.servePartOwned q
  | .pass => s.servePass q
  | .window w =>
    match s.record w with
    | some r => s.serveWindow q w r
    | none => s.servePass q

/-- Whether the port examines its head. -/
def State.examines (s : State) : Bool := s.partState == .pass || s.partState == .active

/-- The head, if one is held, is examined if the part state lets it. -/
def State.examineHead (s : State) : State :=
  match s.head with
  | some q => if s.examines then s.examine q else s
  | none => s

/-- Whether a held head's turn has come: a head that waits at the arbiter, one for a window line, is examined again after
every other claim that can be taken (R89, R90). -/
def State.headTurn (s : State) (q : UpRequest) : Bool :=
  match s.classify (lineOf q.addr) with
  | .window _ => !s.claimsReady
  | _ => true

/-- A request is offered by the interconnect: taken as the head, and examined if the part state lets it. While a head is
held, or in reset, it is not taken (R3, R168, R176; notes/assumptions/4.md). -/
def State.arrive (s : State) (q : UpRequest) : Option State :=
  if s.bootStage = .inReset ∨ s.head.isSome then none
  else some { s with head := some q }.examineHead

end Sys2Proof.Machine
end

