-- ==== Sys2Proof/Machine/Arbiter.lean ====
section
/-!
DEFINITION. Meanings of the commands of the allocation arbiter and of the Sweep Engine's own steps (R85, R90, R123, R135,
R137, R141, R146).
-/

namespace Sys2Proof.Machine

/-! ### The arbiter -/

/-- HEAD_REEXAMINATION: a held head whose turn has come is examined from the first step of R4, in PASS and ACTIVE
(R90; notes/assumptions/27.md). -/
def execHeadReexamination (s : State) : Host.Outcome State Fault Refusal :=
  finish s (if s.examines && s.head.any s.headTurn then some s.examineHead else none)

/-- EVENT_CLAIM_TAKEN (R101, R123): claims are made and taken in ACTIVE. -/
def execEventClaimTaken (s : State) : Host.Outcome State Fault Refusal :=
  finish s (if s.partState = .active then s.takeEventClaim else none)

/-- SWEEP_CLAIM_TAKEN (R102, R103, R137). -/
def execSweepClaimTaken (s : State) : Host.Outcome State Fault Refusal :=
  finish s (if s.partState = .active then s.takeSweepClaim else none)

/-- RELEASE_CLAIM_TAKEN (R85, R104, R159). -/
def execReleaseClaimTaken (s : State) : Host.Outcome State Fault Refusal :=
  finish s (if s.partState = .active then s.takeReleaseClaim else none)

/-! ### The Sweep Engine -/

/-- The sweep the idle engine begins in ACTIVE with the head request of its queue. -/
def State.beginSweep (s : State) : Option State :=
  match s.engine, s.sweepQueue with
  | none, q :: rest => (s.record q.window).map fun r => s.startSweep q rest r
  | _, _ => none

/-- SWEEP_START (R135). -/
def execSweepStart (s : State) : Host.Outcome State Fault Refusal :=
  finish s (if s.partState = .active then s.beginSweep else none)

/-- Whether a copying sweep's closing header is due (R141). -/
def Sweep.closingDue (sw : Sweep) : Bool :=
  sw.phase == .closing && !sw.abandoning && sw.action != .clear && sw.endHeader == .notProduced && sw.allAnswered

/-- The closing header, with state COMPLETE, once it is due. -/
def State.closeHeader (s : State) : Option State :=
  match s.engine with
  | none => none
  | some sw => if sw.closingDue then (s.record sw.window).map fun r => s.produceEnding sw r .complete else none

/-- CLOSING_HEADER_PRODUCED (R141). -/
def execClosingHeaderProduced (s : State) : Host.Outcome State Fault Refusal := finish s s.closeHeader

/-- Whether the closing or abandoning header's write failed. -/
def EndHeader.failed : EndHeader → Bool
  | .answered b => b
  | _ => false

/-- Whether the closing or abandoning header's write has been answered. -/
def EndHeader.isAnswered : EndHeader → Bool
  | .answered _ => true
  | _ => false

/-- Whether a copying sweep ends with SWEEP_FAULT (R141, R146). -/
def Sweep.faulty (sw : Sweep) : Bool := decide (0 < sw.failed) || sw.headerFailed || sw.endHeader.failed

/-- The close: the sweep-done flag, SWEEP_FAULT for a faulty sweep, the engine IDLE. -/
def State.closeSweep (s : State) : Option State :=
  match s.engine with
  | none => none
  | some sw =>
    if sw.phase == .closing && !sw.abandoning && sw.endHeader.isAnswered then
      some (({ s with engine := none }.setSweepDone sw.window).setPartFlagIf sw.faulty .sweepFault)
    else none

/-- SWEEP_CLOSE (R141). -/
def execSweepClose (s : State) : Host.Outcome State Fault Refusal := finish s s.closeSweep

/-- Whether an abandoned sweep has no item in flight and no write unanswered (R146). -/
def Sweep.settled (sw : Sweep) : Bool := sw.abandoning && sw.inFlight == .none && sw.allAnswered

/-- The abandoning header of a copying sweep: state ABANDONED. -/
def State.abandonHeader (s : State) : Option State :=
  match s.engine with
  | none => none
  | some sw =>
    if sw.settled && sw.action != .clear && sw.endHeader == .notProduced then
      (s.record sw.window).map fun r => s.produceEnding sw r .abandoned
    else none

/-- ABANDONING_HEADER_PRODUCED (R146). -/
def execAbandoningHeaderProduced (s : State) : Host.Outcome State Fault Refusal := finish s s.abandonHeader

/-- The incident of an abandoned sweep: the window's base, and the number of lines whose items resolved. -/
def State.reportAbandoned (s : State) (sw : Sweep) : State :=
  s.report .sweepAbandoned (some sw.window) (byteAddr (s.windowBase sw.window)) (BitVec.ofNat 32 sw.nextIndex)

/-- The end of an abandoned sweep: a CLEAR sweep reports its incident and is gone (notes/assumptions/24.md); a copying
sweep, its header answered, also sets SWEEP_FAULT if it was faulty. -/
def State.endAbandoned (s : State) : Option State :=
  match s.engine with
  | none => none
  | some sw =>
    let t := { s with engine := none }.reportAbandoned sw
    if !sw.settled then none
    else if sw.action = .clear then some t
    else if sw.endHeader.isAnswered then some (t.setPartFlagIf sw.faulty .sweepFault)
    else none

/-- SWEEP_ABANDONED (R146). -/
def execSweepAbandoned (s : State) : Host.Outcome State Fault Refusal := finish s s.endAbandoned

end Sys2Proof.Machine
end

