-- ==== Sys2Proof/Machine/Clock.lean ====
section
/-!
DEFINITION. Meanings of the commands of time and of the event inputs: tick increments (R169), what falls due at one (R26,
R120 to R128, R143), and the REFCLK cycle that passes on an empty queue.
-/

namespace Sys2Proof.Machine

/-! ### What falls due at a tick increment -/

/-- An input's due change accepted, if there is one. -/
def State.settleChange (s : State) (n : InputNo) : Option State :=
  match s.levels with
  | some levels => if s.changeDue n then some (s.acceptChange n levels) else none
  | none => none

/-- An input's stuck timer at the limit: the input becomes STUCK. -/
def State.settleStuck (s : State) (n : InputNo) : Option State :=
  match s.binding n with
  | some b => if s.stuckDue n then some (s.enterStuck n b) else none
  | none => none

/-- The chord timer at the hold time: the chord fires. -/
def State.settleChord (s : State) : Option State := if s.chordDue then some s.fireChord else none

/-- An expiry taken: the counter is loaded again and hands its request (R143). -/
def State.expireInterval (s : State) (w : WindowNo) : State :=
  let t : State := { s.restartInterval w with intervalDue := s.intervalDue &&& ~~~(windowMask w) }
  match s.inService w with
  | none => t
  | some r =>
    match r.intervalAction with
    | none => t
    | some a => t.handSweep ⟨w, a, .interval⟩

/-- Whether the counter of `w` is the lowest-numbered one whose expiry is still to be taken: counters of one tick
increment hand their requests in ascending window order (R143). -/
def State.intervalNext (s : State) (w : WindowNo) : Bool :=
  s.partState == .active
    && decide ((List.finRange 16).find? (fun v => s.intervalDue.getLsbD v.val) = some w)

/-- A due interval expiry taken. -/
def State.settleInterval (s : State) (w : WindowNo) : Option State :=
  if s.intervalNext w then some (s.expireInterval w) else none

/-- Everything due and not yet taken, taken in order: expiries of requests, accepted changes, stuck inputs, the chord,
interval expiries (notes/assumptions/7.md). -/
def State.settle (s : State) : State :=
  let expired := (List.finRange 32).foldl (fun acc t => (acc.expire t).getD acc) s
  let changed := (List.finRange 4).foldl (fun acc n => (acc.settleChange n).getD acc) expired
  let stuck := (List.finRange 4).foldl (fun acc n => (acc.settleStuck n).getD acc) changed
  let fired := stuck.settleChord.getD stuck
  (List.finRange 16).foldl (fun acc w => (acc.settleInterval w).getD acc) fired

/-! ### Tick increments (R26, R120, R143, R169) -/

/-- Every interval counter above 0 decreases by one; one that reaches 0 is marked due. -/
def State.countIntervals (s : State) : State :=
  { s with
    intervals := Vector.ofFn fun w => s.intervals[w] - 1
    intervalDue := (List.finRange 16).foldl
      (fun acc w => if s.intervals[w] = 1 then acc ||| windowMask w else acc) s.intervalDue }

/-- The counting of a tick: cycle count 0, tick counter one more, each outstanding request compared with the limit. -/
def State.countTick (s : State) : State := { s with cycles := 0, tick := s.tick + 1, ursp := none }.compareTags

/-- A tick increment with the event inputs at the given levels: what is still due is taken, the tick counted and, in
ACTIVE, the interval counters and the inputs' sample follow. -/
def State.passTick (s : State) (levels : BitVec 4) : State :=
  let t : State := { s.settle.countTick with evLevels := levels, newCounts := 0 }
  if t.partState = .active then t.countIntervals.sample levels else t

/-- TICK_INCREMENT. While RESET_N is held low both counts stay 0. -/
def execTickIncrement (levels : BitVec 4) (s : State) : Host.Outcome State Fault Refusal :=
  finish s (if s.bootStage = .inReset then none else some (s.passTick levels))

/-- One REFCLK cycle with nothing commanded: the response presented on the URSP signals has been taken, the cycle count
rises and, at the divider, the tick increments (R169, R176; notes/assumptions/1.md). -/
def State.passCycle (s : State) : State :=
  if s.bootStage = .inReset then { s with ursp := none }
  else if s.boot.divider ≤ s.cycles + 1 then s.commit (s.passTick s.evLevels)
  else { s with cycles := s.cycles + 1, ursp := none }

/-! ### What a tick increment brought, taken one by one -/

/-- ACCEPTED_CHANGE (R121). -/
def execAcceptedChange (input : InputNo) (s : State) : Host.Outcome State Fault Refusal :=
  finish s (s.settleChange input)

/-- EVENT_STUCK (R125). -/
def execEventStuck (input : InputNo) (s : State) : Host.Outcome State Fault Refusal := finish s (s.settleStuck input)

/-- CHORD_FIRES (R127, R128). -/
def execChordFires (s : State) : Host.Outcome State Fault Refusal := finish s s.settleChord

/-- INTERVAL_EXPIRY (R143). -/
def execIntervalExpiry (window : WindowNo) (s : State) : Host.Outcome State Fault Refusal :=
  finish s (s.settleInterval window)

/-- REQUEST_EXPIRY (R26). -/
def execRequestExpiry (tag : DownTag) (s : State) : Host.Outcome State Fault Refusal := finish s (s.expire tag)

end Sys2Proof.Machine
end

