-- ==== Sys2Proof/Machine/PortSteps.lean ====
section
/-!
DEFINITION. Meanings of the commands of the two ports: grants, the signals, and memory's responses (R1, R20, R24, R29,
R176).
-/

namespace Sys2Proof.Machine

/-- The grant of the lowest FREE tag to the waiter of the highest class. -/
def State.grantNext (s : State) : Option State :=
  match s.freeTag, s.nextWaiter with
  | some t, some w => some (s.grant t w)
  | _, _ => none

/-- PORT_GRANT (R24); in reset no request is issued (R168). -/
def execPortGrant (s : State) : Host.Outcome State Fault Refusal :=
  finish s (if s.bootStage = .inReset then none else s.grantNext)

/-- The presented downstream request is taken by memory and the next is presented. -/
def State.presentNext (s : State) : Option State :=
  match s.dreq with
  | [] => none
  | _ :: rest => some { s with dreq := rest }

/-- DOWNSTREAM_REQUEST_TAKEN (R176). -/
def execDownstreamRequestTaken (s : State) : Host.Outcome State Fault Refusal := finish s s.presentNext

/-- A response as the URSP signals carry it. -/
def UpResponse.signals (r : UpResponse) : UrspSignals where
  tag := r.tag
  result := r.result.code
  data := r.data

/-- The oldest response leaves on the URSP signals, which carry it for one REFCLK cycle. -/
def State.sendResponse (s : State) : Option State :=
  match s.responses with
  | [] => none
  | r :: rest => some { s with responses := rest, ursp := some r.signals }

/-- RESPONSE_SENT (R1, R176); while RESET_N is low URSP_VALID is deasserted. -/
def execResponseSent (s : State) : Host.Outcome State Fault Refusal :=
  finish s (if s.bootStage = .inReset then none else s.sendResponse)

/-! Memory's responses. Each acts on the state of its tag, whichever row brought it (R20; notes/assumptions/6.md). -/

/-- PASS_RESPONSE (R16, R29). -/
def execPassResponse (rsp : DownResponse) (s : State) : Host.Outcome State Fault Refusal :=
  finish s (s.takeResponse rsp)

/-- FETCH_RESPONSE (R75, R76, R82). -/
def execFetchResponse (rsp : DownResponse) (s : State) : Host.Outcome State Fault Refusal :=
  finish s (s.takeResponse rsp)

/-- WRITEBACK_RESPONSE (R80, R81, R87). -/
def execWritebackResponse (rsp : DownResponse) (s : State) : Host.Outcome State Fault Refusal :=
  finish s (s.takeResponse rsp)

/-- SHADOW_RESPONSE (R140). -/
def execShadowResponse (rsp : DownResponse) (s : State) : Host.Outcome State Fault Refusal :=
  finish s (s.takeResponse rsp)

/-- LOG_WRITE_RESPONSE (R164). -/
def execLogWriteResponse (rsp : DownResponse) (s : State) : Host.Outcome State Fault Refusal :=
  finish s (s.takeResponse rsp)

/-- SETUP_RESPONSE (R29). -/
def execSetupResponse (rsp : DownResponse) (s : State) : Host.Outcome State Fault Refusal :=
  finish s (s.takeResponse rsp)

/-- LATE_RESPONSE: for a RETIRED or FREE tag (R20). -/
def execLateResponse (rsp : DownResponse) (s : State) : Host.Outcome State Fault Refusal :=
  finish s (s.takeResponse rsp)

end Sys2Proof.Machine
end

