-- ==== Sys2Proof/Machine/Requests.lean ====
section
/-!
DEFINITION. Meanings of the upstream request commands. Each brings one request to the Upstream Port, which classifies it as
it falls in the state it meets (R3, R6; notes/assumptions/3.md).
-/

namespace Sys2Proof.Machine

/-- A request for a line of the Control Area. -/
def State.controlRequest (s : State) (tag : UpTag) (k : Nat) (body : ReqBody) : UpRequest :=
  ⟨tag, byteAddr (s.controlLine k), body⟩

/-- PASS_THROUGH_REQUEST (R16). -/
def execPassThroughRequest (req : UpRequest) (s : State) : Host.Outcome State Fault Refusal := finish s (s.arrive req)

/-- WINDOW_WRITE (R9 to R12). -/
def execWindowWrite (tag : UpTag) (addr : ByteAddr) (enables : Enables) (data : Line) (s : State) :
    Host.Outcome State Fault Refusal :=
  finish s (s.arrive ⟨tag, addr, .write enables data⟩)

/-- WINDOW_READ (R12, R63). -/
def execWindowRead (tag : UpTag) (addr : ByteAddr) (s : State) : Host.Outcome State Fault Refusal :=
  finish s (s.arrive ⟨tag, addr, .read⟩)

/-- STATUS_LINE_READ (R111). -/
def execStatusLineRead (tag : UpTag) (s : State) : Host.Outcome State Fault Refusal :=
  finish s (s.arrive (s.controlRequest tag 0 .read))

/-- PROTECT_WRITE (R17, R151). -/
def execProtectWrite (tag : UpTag) (enables : Enables) (data : Line) (s : State) : Host.Outcome State Fault Refusal :=
  finish s (s.arrive (s.controlRequest tag 2 (.write enables data)))

/-- LIVE_SETTING_WRITE (R17, R144, R150). -/
def execLiveSettingWrite (tag : UpTag) (line : Fin 42) (enables : Enables) (data : Line) (s : State) :
    Host.Outcome State Fault Refusal :=
  finish s (s.arrive (s.controlRequest tag line.val (.write enables data)))

/-- CONTROL_AREA_LINE_WRITE (R7). -/
def execControlAreaLineWrite (tag : UpTag) (line : Fin 42) (enables : Enables) (data : Line) (s : State) :
    Host.Outcome State Fault Refusal :=
  finish s (s.arrive (s.controlRequest tag line.val (.write enables data)))

/-- HEAD_REQUEST_HELD (R3, R174). -/
def execHeadRequestHeld (req : UpRequest) (s : State) : Host.Outcome State Fault Refusal := finish s (s.arrive req)

/-- PART_OWNED_WRITE (R8, R10). -/
def execPartOwnedWrite (tag : UpTag) (addr : ByteAddr) (enables : Enables) (data : Line) (s : State) :
    Host.Outcome State Fault Refusal :=
  finish s (s.arrive ⟨tag, addr, .write enables data⟩)

/-- COMMAND_WRITE_REFUSED (R13). -/
def execCommandWriteRefused (tag : UpTag) (enables : Enables) (data : Line) (s : State) :
    Host.Outcome State Fault Refusal :=
  finish s (s.arrive (s.controlRequest tag 1 (.write enables data)))

/-! ### Command writes (R13, R153 to R160) -/

/-- The data of a command write with the given code (Table 13-3). -/
def commandData (c : CommandWrite) (code : Byte) : Line :=
  c.highData ++ c.argument ++ c.swTag ++ c.action ++ c.window ++ code

/-- A write of the command line that enables bytes 0–7. -/
def State.commandRequest (s : State) (tag : UpTag) (code : Byte) (c : CommandWrite) : UpRequest :=
  s.controlRequest tag 1 (.write (c.highEnables ++ (0xFF : Byte)) (commandData c code))

/-- ARM (R155). -/
def execArm (tag : UpTag) (cmd : CommandWrite) (s : State) : Host.Outcome State Fault Refusal :=
  finish s (s.arrive (s.commandRequest tag 0x01 cmd))

/-- DISARM (R156). -/
def execDisarm (tag : UpTag) (cmd : CommandWrite) (s : State) : Host.Outcome State Fault Refusal :=
  finish s (s.arrive (s.commandRequest tag 0x02 cmd))

/-- REARM (R157). -/
def execRearm (tag : UpTag) (cmd : CommandWrite) (s : State) : Host.Outcome State Fault Refusal :=
  finish s (s.arrive (s.commandRequest tag 0x03 cmd))

/-- SWEEP (R158). -/
def execSweep (tag : UpTag) (cmd : CommandWrite) (s : State) : Host.Outcome State Fault Refusal :=
  finish s (s.arrive (s.commandRequest tag 0x04 cmd))

/-- RELEASE (R159). -/
def execRelease (tag : UpTag) (cmd : CommandWrite) (s : State) : Host.Outcome State Fault Refusal :=
  finish s (s.arrive (s.commandRequest tag 0x05 cmd))

/-- LOG_RESET (R160, R166). -/
def execLogReset (tag : UpTag) (cmd : CommandWrite) (s : State) : Host.Outcome State Fault Refusal :=
  finish s (s.arrive (s.commandRequest tag 0x06 cmd))

/-- BAD_COMMAND: a command write with any other code (R154). -/
def execBadCommand (tag : UpTag) (code : Byte) (cmd : CommandWrite) (s : State) : Host.Outcome State Fault Refusal :=
  finish s (s.arrive (s.commandRequest tag code cmd))

end Sys2Proof.Machine
end

