-- ==== Sys2Proof/Machine/Resets.lean ====
section
/-!
DEFINITION. Meanings of the commands of resets and part states (R109, R149, R167 to R174).
-/

namespace Sys2Proof.Machine

/-! ### Resets (R168) -/

/-- What every reset leaves: the values of `State.reset`, but for the response queue, which no reset empties (R1), the
commands still queued, and the pins: SETUP_SEL as last sampled and the levels on the event inputs. -/
def State.afterReset (s : State) (kind : ResetKind) (wasActive : Bool) : State :=
  { State.reset with
    pending := s.pending
    resetKind := kind
    wasActive := wasActive
    setupSel := s.setupSel
    evLevels := s.evLevels
    responses := s.responses }

/-- POWER_ON_RESET: every block is reset and the was-active flag cleared; the part is in BOOT, held in reset. -/
def execPowerOnReset (s : State) : Host.Outcome State Fault Refusal := finish s (some (s.afterReset .powerOn false))

/-- WARM_RESET: as a power-on reset, but the was-active flag is left as it stood. -/
def execWarmReset (s : State) : Host.Outcome State Fault Refusal := finish s (some (s.afterReset .warm s.wasActive))

/-! ### BOOT (R170) -/

/-- Steps 1 and 2 of BOOT: SETUP_SEL is sampled and the reads of lines 0, 2 and 3 are placed. -/
def State.beginBoot (s : State) (sel : BitVec 3) : State :=
  { s with
    setupSel := sel
    bootStage := .reading
    setup := ((s.setup.set 0 .waiting).set 2 .waiting).set 3 .waiting }

/-- RESET_RELEASE: BOOT begins. -/
def execResetRelease (sel : BitVec 3) (s : State) : Host.Outcome State Fault Refusal :=
  finish s (if s.bootStage = .inReset then some (s.beginBoot sel) else none)

/-- Whether the reads of lines 2 and 3 have ended and the boot settings are still to be applied (R170 step 3). -/
def State.bootSettingsRead (s : State) : Bool :=
  s.bootStage == .reading && s.setup[2].ended && s.setup[3].ended

/-- BOOT_SETTINGS_APPLIED. -/
def execBootSettingsApplied (s : State) : Host.Outcome State Fault Refusal :=
  finish s (if s.bootSettingsRead then some s.applyBootSettings else none)

/-- Whether the boot settings are applied and the read of line 0 has ended (R170 step 4). -/
def State.statusLineRead (s : State) : Bool := s.bootStage == .applied && s.setup[0].ended

/-- STATUS_COPY_FORMED. -/
def execStatusCopyFormed (s : State) : Host.Outcome State Fault Refusal :=
  finish s (if s.statusLineRead then some s.formPinned else none)

/-- Whether BOOT can end: the first write-back of each pinned entry has ended (R170 step 6). -/
def State.bootDone (s : State) : Bool :=
  s.partState == .boot && s.bootStage == .formed && s.statusWritten && s.commandWritten

/-- Whether the start mode arms the part (R171). -/
def State.armsAtBoot (s : State) : Bool :=
  match s.boot.startMode with
  | .wait => false
  | .armAtBoot => true
  | .resume => s.wasActive

/-- BOOT_END: to LOADING or to PASS, where a held head is examined (R171, R174). -/
def execBootEnd (s : State) : Host.Outcome State Fault Refusal :=
  finish s (if s.bootDone then some (if s.armsAtBoot then s.enterLoading else (s.enter .pass).examineHead) else none)

/-! ### LOADING and DRAINING (R172, R173) -/

/-- Whether every setup read of lines 4 to 41 has ended. -/
def State.settingsRead (s : State) : Bool :=
  s.partState == .loading && (List.finRange 42).all fun k => decide (k.val < 4) || s.setup[k].ended

/-- LOADING_COMPLETE: steps 2 to 6 of R172; then the held head is examined. That it goes before the first sweep of a
clear-at-arm request, which SWEEP_START begins, is a DESIGN CHOICE: R172 gives no order (notes/assumptions/30.md). -/
def execLoadingComplete (s : State) : Host.Outcome State Fault Refusal :=
  finish s (if s.settingsRead then some s.completeLoading.examineHead else none)

/-- Whether DRAINING can end: no general entry in use and, no sweep being left, no SHADOW request outstanding
(notes/assumptions/19.md). -/
def State.drained (s : State) : Bool := s.partState == .draining && s.inUse == 0 && s.engine.isNone

/-- The tables, lists and counters emptied at the end of DRAINING. -/
def State.emptyTables (s : State) : State :=
  { s with
    windows := Vector.replicate 16 .empty
    bindings := Vector.replicate 4 none
    chord := .none
    suspects := []
    intervals := Vector.replicate 16 0
    intervalDue := 0
    wasActive := false }

/-- DRAINING_END: the tables emptied, DISARM complete with OK, PASS entered and the held head examined. -/
def execDrainingEnd (s : State) : Host.Outcome State Fault Refusal :=
  finish s (if s.drained then some ((s.emptyTables.completeCommand .ok).enter .pass).examineHead else none)

end Sys2Proof.Machine
end

