-- ==== Sys2Proof/Machine/Dispatch.lean ====
section
/-! DEFINITION. The meaning of every command: one arm for each constructor of `Instr`. -/

namespace Sys2Proof.Machine

def exec (i : Instr) (s : State) : Host.Outcome State Fault Refusal :=
  match i with
  | .powerOnReset => Sys2Proof.Machine.execPowerOnReset s
  | .warmReset => Sys2Proof.Machine.execWarmReset s
  | .resetRelease sel => Sys2Proof.Machine.execResetRelease sel s
  | .bootSettingsApplied => Sys2Proof.Machine.execBootSettingsApplied s
  | .statusCopyFormed => Sys2Proof.Machine.execStatusCopyFormed s
  | .bootEnd => Sys2Proof.Machine.execBootEnd s
  | .loadingComplete => Sys2Proof.Machine.execLoadingComplete s
  | .drainingEnd => Sys2Proof.Machine.execDrainingEnd s
  | .tickIncrement levels => Sys2Proof.Machine.execTickIncrement levels s
  | .acceptedChange input => Sys2Proof.Machine.execAcceptedChange input s
  | .eventStuck input => Sys2Proof.Machine.execEventStuck input s
  | .chordFires => Sys2Proof.Machine.execChordFires s
  | .intervalExpiry window => Sys2Proof.Machine.execIntervalExpiry window s
  | .requestExpiry tag => Sys2Proof.Machine.execRequestExpiry tag s
  | .passThroughRequest req => Sys2Proof.Machine.execPassThroughRequest req s
  | .windowWrite tag addr enables data => Sys2Proof.Machine.execWindowWrite tag addr enables data s
  | .windowRead tag addr => Sys2Proof.Machine.execWindowRead tag addr s
  | .statusLineRead tag => Sys2Proof.Machine.execStatusLineRead tag s
  | .protectWrite tag enables data => Sys2Proof.Machine.execProtectWrite tag enables data s
  | .liveSettingWrite tag line enables data => Sys2Proof.Machine.execLiveSettingWrite tag line enables data s
  | .controlAreaLineWrite tag line enables data => Sys2Proof.Machine.execControlAreaLineWrite tag line enables data s
  | .arm tag cmd => Sys2Proof.Machine.execArm tag cmd s
  | .disarm tag cmd => Sys2Proof.Machine.execDisarm tag cmd s
  | .rearm tag cmd => Sys2Proof.Machine.execRearm tag cmd s
  | .sweep tag cmd => Sys2Proof.Machine.execSweep tag cmd s
  | .release tag cmd => Sys2Proof.Machine.execRelease tag cmd s
  | .logReset tag cmd => Sys2Proof.Machine.execLogReset tag cmd s
  | .badCommand tag code cmd => Sys2Proof.Machine.execBadCommand tag code cmd s
  | .headReexamination => Sys2Proof.Machine.execHeadReexamination s
  | .eventClaimTaken => Sys2Proof.Machine.execEventClaimTaken s
  | .sweepClaimTaken => Sys2Proof.Machine.execSweepClaimTaken s
  | .releaseClaimTaken => Sys2Proof.Machine.execReleaseClaimTaken s
  | .sweepStart => Sys2Proof.Machine.execSweepStart s
  | .closingHeaderProduced => Sys2Proof.Machine.execClosingHeaderProduced s
  | .sweepClose => Sys2Proof.Machine.execSweepClose s
  | .abandoningHeaderProduced => Sys2Proof.Machine.execAbandoningHeaderProduced s
  | .sweepAbandoned => Sys2Proof.Machine.execSweepAbandoned s
  | .portGrant => Sys2Proof.Machine.execPortGrant s
  | .downstreamRequestTaken => Sys2Proof.Machine.execDownstreamRequestTaken s
  | .responseSent => Sys2Proof.Machine.execResponseSent s
  | .passResponse rsp => Sys2Proof.Machine.execPassResponse rsp s
  | .fetchResponse rsp => Sys2Proof.Machine.execFetchResponse rsp s
  | .writebackResponse rsp => Sys2Proof.Machine.execWritebackResponse rsp s
  | .shadowResponse rsp => Sys2Proof.Machine.execShadowResponse rsp s
  | .logWriteResponse rsp => Sys2Proof.Machine.execLogWriteResponse rsp s
  | .setupResponse rsp => Sys2Proof.Machine.execSetupResponse rsp s
  | .lateResponse rsp => Sys2Proof.Machine.execLateResponse rsp s
  | .headRequestHeld req => Sys2Proof.Machine.execHeadRequestHeld req s
  | .partOwnedWrite tag addr enables data => Sys2Proof.Machine.execPartOwnedWrite tag addr enables data s
  | .commandWriteRefused tag enables data => Sys2Proof.Machine.execCommandWriteRefused tag enables data s

end Sys2Proof.Machine
end

