-- ==== Sys2Proof/Safety.lean ====
section
/-!
DEFINITION. The words the statements use: when the port serves a request, when nothing is due, and the invariants of the
bridge (capacities, one holder for each line, pinned lines, the alert line), the tests of LOADING, and the changes of part
state.
-/

namespace Sys2Proof.Machine

/-! ### Conditions -/

/-- The port takes a request now and examines it at once, and its tag is free (R3, R5). -/
def State.serves (s : State) (tag : UpTag) : Bool :=
  s.head.isNone && s.bootStage != .inReset && s.examines && !s.outstanding.contains tag

/-- Nothing that the last tick increment brought is still to be taken. -/
def State.quiet (s : State) : Bool :=
  (List.finRange 32).all (fun t => (s.expire t).isNone)
    && (List.finRange 4).all (fun n => (s.settleChange n).isNone && (s.settleStuck n).isNone)
    && s.settleChord.isNone
    && (List.finRange 16).all (fun w => (s.settleInterval w).isNone)

/-- Whether the origin a tag names still waits for its outcome: a fetch's entry is in FETCHING with the tag, a general
write-back's in WRITING with it. -/
def State.awaited (s : State) (t : DownTag) : Origin → Bool
  | .fetch i => match s.entries[i] with
    | .fetching _ _ u => u == t
    | _ => false
  | .writeback (.general i) => match s.entries[i] with
    | .writing _ _ _ _ _ _ u => u == t
    | _ => false
  | _ => true

/-- The state with a request refused: REFUSED answered, REFUSAL set, one REFUSED incident (R10). -/
def State.refusedWith (s : State) (tag : UpTag) (addr : ByteAddr) (window : Option WindowNo) (reason : Reason) : State :=
  ((s.respond tag .refused none).setPartFlag .refusal).report .refused window (byteAddr (lineOf addr)) reason.code

/-- The state with a command write answered OKAY and taken: bytes 0–7 replaced, NONE, RUNNING, the count one more
(R13, R153). -/
def State.taken (s : State) (tag : UpTag) (code : Byte) (cmd : CommandWrite) : State :=
  { s.respond tag .okay none with
    command := ⟨code, cmd.window, cmd.action, cmd.swTag, cmd.argument, .none, .running, s.command.count + 1⟩ }

/-- Whether a command write brought now is taken: the port serves it and no command is RUNNING. -/
def State.takesCommand (s : State) (tag : UpTag) : Bool := s.serves tag && s.command.state != .running

/-! ### Invariants -/

/-- Every queue, list and count lies within the capacity of Table 0-3, and the outstanding-tag set and the Sweep Queue
hold no duplicates (R2, R21, R70, R99, R119, R133, R162). -/
structure State.WithinCapacities (s : State) : Prop where
  passQueue   : s.passQueue.length ≤ 8
  itemQueues  : ∀ i : Fin 12, s.entries[i].queue.length ≤ 8
  suspects    : s.suspects.length ≤ 8
  sweepQueue  : s.sweepQueue.length ≤ 16
  sweepOnce   : (s.sweepQueue.map (·.window)).Nodup
  logQueue    : s.logQueue.length ≤ 4
  logHeld     : s.logHeld ≤ 32
  outstanding : s.outstanding.Nodup
  pending     : ∀ n : InputNo, s.inputs[n].pending ≤ 15

/-- No line is held by two general entries, a listed line is held by none and listed once (R71, R99), and outside ACTIVE
and DRAINING no general entry is in use and no line is listed (R107, R172, R173). -/
structure State.LinesHeldOnce (s : State) : Prop where
  entries : ∀ i j : Fin 12, ∀ h k : Hold, s.entries[i].hold? = some h → s.entries[j].hold? = some k →
    h.line = k.line → i = j
  listed  : ∀ i : Fin 12, ∀ h : Hold, s.entries[i].hold? = some h → h.line ∉ s.suspects
  once    : s.suspects.Nodup
  idle    : s.partState ≠ .active → s.partState ≠ .draining → s.inUse = 0 ∧ s.suspects = []

/-- A pinned entry in HELD agrees with its last-written image, the tick field left out (R70, R78, R87). -/
def State.PinnedAgree (s : State) : Prop :=
  (∀ image, s.statusEntry = .held image → statusPart image = statusPart (s.statusCopy 0))
    ∧ ∀ image, s.commandEntry = .held image → image = s.commandCopy

/-- ALERT_N is as R117 judges it. -/
def State.AlertRight (s : State) : Prop := s.alert = s.alertJudged

/-! ### What LOADING judges (R40, R41, R129) -/

/-- A window's record holds what its two descriptor lines hold (Table 13-6, with the codes of Table 13-1). -/
def WindowRecord.describedBy (r : WindowRecord) (first second : Line) : Prop :=
  let action : Option SweepAction → Byte := fun a => match a with
    | none => 0
    | some .copy => 1
    | some .copyClear => 2
    | some .clear => 3
  r.base = lineOf (fieldAt first 0 32) ∧ r.shadowBase = lineOf (fieldAt first 4 32) ∧
  r.length = (fieldAt first 8 16).toNat ∧ r.enable = first.getLsbD 96 ∧ r.clearAtArm = first.getLsbD 97 ∧
  byteAt first 10 = (match r.function with
    | .accumulate => 0
    | .weighted => 1
    | .extreme => 2
    | .difference => 3) ∧
  byteAt first 11 = (match r.format with
    | .u16 => 0
    | .s16 => 1
    | .u32 => 2) ∧
  byteAt first 13 = (if r.check then 1 else 0) ∧
  byteAt first 14 = (match r.readAction with
    | .plain => 0
    | .clear => 1) ∧
  byteAt first 15 = (match r.crossingMode with
    | .off => 0
    | .first => 1
    | .each => 2) ∧
  r.threshold = fieldAt second 0 32 ∧ r.weights = fieldAt second 4 64 ∧
  byteAt second 12 = action r.intervalAction ∧ byteAt second 13 = action r.chordAction

/-- A first descriptor line that is unused: length 0 and enable clear (R34). -/
def unusedDescriptor (first : Line) : Prop := fieldAt first 8 16 = 0 ∧ first.getLsbD 96 = false

/-- The lines from `base` share none with the Control Area, the log region, and the ranges and shadow regions of the
valid windows below `w` (R40, R42). -/
def State.linesFree (s : State) (w : WindowNo) (base : LineAddr) (len : Nat) : Prop :=
  ∀ l : LineAddr, lineIn base len l → s.controlIndex l = none ∧ s.inLog l = false ∧
    ∀ v : WindowNo, v < w → s.shadowHolds l v = false ∧
      ∀ q : WindowRecord, s.record v = some q → lineIn q.base q.length l = false

/-- Tests of a setting in order, each with its field code. -/
abbrev OrderedTests := List (BitVec 32 × Prop)

/-- No test holds. -/
def OrderedTests.pass (ts : OrderedTests) : Prop := ∀ t ∈ ts, ¬t.2

/-- The first test that holds has the field code. -/
def OrderedTests.first (ts : OrderedTests) (code : BitVec 32) : Prop :=
  ∃ before after p, ts = before ++ (code, p) :: after ∧ p ∧ ∀ t ∈ before, ¬t.2

/-- Tests 3 to 8 of Table 3-6 for window `w`, with the threshold as Table 3-4 reads it. -/
def State.windowTests (s : State) (w : WindowNo) (r : WindowRecord) : OrderedTests :=
  [(0x03, r.length = 0 ∨ 4096 < r.length ∨ 2 ^ 28 < r.base.toNat + r.length),
   (0x04, r.function = .extreme ∧ r.format = .u32),
   (0x05, ¬(match r.function, r.format with
      | .difference, .u32 => 0 ≤ r.threshold.toInt
      | .difference, _ => 0 ≤ r.threshold.toInt ∧ r.threshold.toInt ≤ 32767
      | _, .u16 => r.threshold.toNat ≤ 65535
      | _, .s16 => -32768 ≤ r.threshold.toInt ∧ r.threshold.toInt ≤ 32767
      | _, .u32 => True)),
   (0x06, ¬s.linesFree w r.base r.length),
   (0x07, r.shadowBase ≠ 0 ∧ (2 ^ 28 < r.shadowBase.toNat + (r.length + 1)
      ∨ ¬s.linesFree w r.shadowBase (r.length + 1)
      ∨ ∃ l, lineIn r.shadowBase (r.length + 1) l ∧ lineIn r.base r.length l)),
   (0x08, r.shadowBase = 0 ∧ ¬((r.intervalAction = none ∨ r.intervalAction = some .clear)
      ∧ (r.chordAction = none ∨ r.chordAction = some .clear)))]

/-- The binding holds what the eight bytes of input `n` in its line hold (Table 13-5, with the codes of Table 13-1). -/
def Binding.describedBy (b : Binding) (n : InputNo) (l : Line) : Prop :=
  let at0 := 64 * (n.val % 2)
  l.extractLsb' (at0 + 1) 2 = (match b.edge with
    | .rising => 0
    | .falling => 1
    | .both => 2) ∧
  b.debounce = l.extractLsb' (at0 + 4) 3 ∧ b.lane = l.extractLsb' (at0 + 8) 3 ∧
  b.increment = l.extractLsb' (at0 + 16) 8 ∧ b.target = l.extractLsb' (at0 + 36) 28

/-- Tests 2 to 6 of Table 8-4 for the binding of input `n`. -/
def State.bindingTests (s : State) (n : InputNo) (l : Line) : OrderedTests :=
  let at0 := 64 * (n.val % 2)
  let target : LineAddr := l.extractLsb' (at0 + 36) 28
  [(0x02, l.extractLsb' (at0 + 1) 2 = 3),
   (0x03, l.extractLsb' (at0 + 16) 8 = 0),
   (0x04, s.windowOf target = none),
   (0x05, ∃ w r, s.windowOf target = some w ∧ s.record w = some r ∧ r.function ≠ .accumulate),
   (0x06, ∃ w r, s.windowOf target = some w ∧ s.record w = some r
      ∧ r.dataLanes ≤ (l.extractLsb' (at0 + 8) 3).toNat)]

/-- The state with a Control Area setting fallen to its default: SETUP_FAULT, the arming's mark in LOADING, and one
SETUP_INVALID incident with the field code (R44, R129, R130, R150, R152). -/
def State.fallen (s : State) (window : Option WindowNo) (addr : ByteAddr) (code : BitVec 32) : State :=
  { s with
    fellToDefault := s.fellToDefault || s.partState == PartState.loading
    flags := { s.flags with part := s.flags.part ||| 1 } }.report .setupInvalid window addr code

/-! ### Commands by what they may change -/

/-- The two resets. -/
def isReset : Instr → Bool
  | .powerOnReset => true
  | .warmReset => true
  | _ => false

/-- Commands in which an upstream head can be examined. -/
def examinesUpstream : Instr → Bool
  | .bootEnd | .loadingComplete | .drainingEnd | .headReexamination => true
  | .passThroughRequest _ | .windowWrite .. | .windowRead .. | .statusLineRead _ | .protectWrite ..
  | .liveSettingWrite .. | .controlAreaLineWrite .. | .arm .. | .disarm .. | .rearm .. | .sweep .. | .release ..
  | .logReset .. | .badCommand .. | .headRequestHeld _ | .partOwnedWrite .. | .commandWriteRefused .. => true
  | _ => false

/-! ### Part states -/

/-- A command is RUNNING with the given code. -/
def State.running (s : State) (code : Byte) : Prop := s.command.state = .running ∧ s.command.code = code

/-- The changes of part state, each with the command that makes it (Table 12-1): `s` before, `t` after. ARM and DISARM
come with any command in which a head is examined; a head held through BOOT, LOADING or DRAINING is examined in the step
that ends it, so that step can make two changes (R3, R174; notes/assumptions/11.md). -/
inductive PartMove (c : Instr) (s t : State) : Prop where
  | stays (h : t.partState = s.partState)
  | bootEnds (hc : c = .bootEnd) (hs : s.partState = .boot) (ht : t.partState = .pass ∨ t.partState = .loading)
  | loadingEnds (hc : c = .loadingComplete) (hs : s.partState = .loading)
      (ht : t.partState = .active ∨ (t.partState = .draining ∧ t.running 0x02))
  | drainingEnds (hc : c = .drainingEnd) (hs : s.partState = .draining)
      (ht : t.partState = .pass ∨ (t.partState = .loading ∧ t.running 0x01))
  | arms (hc : examinesUpstream c = true) (hs : s.partState = .pass) (ht : t.partState = .loading)
      (hr : t.running 0x01)
  | disarms (hc : examinesUpstream c = true) (hs : s.partState = .active) (ht : t.partState = .draining)
      (hr : t.running 0x02)

end Sys2Proof.Machine
end

