-- ==== Sys2Proof/Certificates/Slice0/Obligations.lean ====
section
/-!
DEFINITION. The statements about the bridge. A result is stated as the answer of `exec`: the state the rules give, with
`State.commit`, the end every step has (R87, R117), or the fields they give. Fields a written-out state does not name are
unchanged, so such a result is also its frame.
-/

section

open Sys2Proof Sys2Proof.Machine

/-! ### Steps, the queue, resets -/

/-- A step runs the command at the front of the queue on the state with the queue's rest. -/
def Obligations.StepRunsTheFrontCommand : Prop :=
  ∀ (c : Instr) (rest : List Instr) (s : State), s.pending = c :: rest → step s = exec c { s with pending := rest }

/-- An empty queue passes one REFCLK cycle (R169; that it does so is the model's choice, notes/assumptions/1.md). -/
def Obligations.EmptyQueuePassesOneCycle : Prop :=
  ∀ s : State, s.pending = [] →
    (s.bootStage = .inReset → step s = .next { s with ursp := none }) ∧
    (s.bootStage ≠ .inReset → s.cycles + 1 < s.boot.divider →
      step s = .next { s with cycles := s.cycles + 1, ursp := none }) ∧
    (s.bootStage ≠ .inReset → s.boot.divider ≤ s.cycles + 1 → step s = exec (.tickIncrement s.evLevels) s)

/-- Every command answers a next state, none a fault or a refusal (notes/assumptions/26.md), also where the cause its row
names is absent (notes/assumptions/2.md), and leaves the queue to the step. -/
def Obligations.EveryCommandAnswersNext : Prop :=
  ∀ (c : Instr) (s : State), ∃ t, exec c s = .next t ∧ t.pending = s.pending

/-- The values the manual states for the state after a power-on reset. -/
def Obligations.ResetLeavesTheStatedValues : Prop :=
  let s := State.reset
  s.partState = .boot ∧ s.alert = false ∧ s.tick = 0 ∧ s.cycles = 0 ∧ s.wasActive = false ∧ s.boot.divider = 1000 ∧
  s.boot.responseLimit = 50 ∧ s.boot.portOrder = .a ∧ s.boot.polynomial = .a ∧ s.boot.protect = false ∧
  s.live = ⟨0, 0, 0⟩ ∧ s.logStyle = .off ∧ s.logQueue = [] ∧ s.outstanding = [] ∧ s.head = none ∧
  (∀ t : DownTag, s.tags[t] = .free) ∧ s.passQueue = [] ∧ (∀ i : Fin 12, s.entries[i] = .free) ∧
  s.statusEntry = .empty ∧ s.commandEntry = .empty ∧ s.releaseClaim = none ∧
  (∀ w : WindowNo, s.windows[w] = ⟨none, false, 0⟩) ∧ s.suspects = [] ∧ s.sweepQueue = [] ∧ s.engine = none ∧
  (∀ w : WindowNo, s.intervals[w] = 0) ∧ (∀ n : InputNo, s.bindings[n] = none) ∧ s.chord.members = 0 ∧
  s.levels = none ∧ (∀ n : InputNo, s.inputs[n] = ⟨0, 0, .inactive, 0⟩) ∧ s.chordTimer = 0 ∧ s.chordFired = false ∧
  s.servicePos = 0 ∧ s.eventClaim = none

/-- Both resets put `State.reset` in place of everything but the response queue (R1), the commands still queued and the
pins as last sampled (kept by the model's choice, notes/assumptions/28.md); the two kinds differ in the was-active flag
and in the kind BOOT goes by (R168). Of what `State.reset` holds, the values no rule states (the flags, the log counts,
start mode and keep-status among them) are notes/assumptions/16.md, and that requests presented to memory are gone is
notes/assumptions/14.md. -/
def Obligations.ResetsClearTheBridge : Prop :=
  ∀ s : State,
    exec .powerOnReset s = .next { State.reset with
      pending := s.pending, setupSel := s.setupSel, evLevels := s.evLevels, responses := s.responses } ∧
    exec .warmReset s = .next { State.reset with
      pending := s.pending, setupSel := s.setupSel, evLevels := s.evLevels, responses := s.responses,
      resetKind := .warm, wasActive := s.wasActive }

/-! ### BOOT -/

/-- Steps 1 and 2 of BOOT at the release of the reset; without a reset held the command changes nothing (R170;
notes/assumptions/2.md). -/
def Obligations.BootBeginsAtRelease : Prop :=
  ∀ (sel : BitVec 3) (s : State),
    (s.bootStage = .inReset → exec (.resetRelease sel) s = .next (s.commit { s with
      setupSel := sel, bootStage := .reading
      setup := ((s.setup.set 0 .waiting).set 2 .waiting).set 3 .waiting })) ∧
    (s.bootStage ≠ .inReset → exec (.resetRelease sel) s = .next s)

/-- The boot settings in force after the reads of lines 2 and 3: each field as its bytes give it (Table 13-4), its
default where it cannot be used, with SETUP_FAULT then set (R149). -/
def Obligations.BootSettingsFollowTheirLines : Prop :=
  ∀ (s : State) (x y : SetupSlot), s.bootStage = .reading → s.setup[2] = x → s.setup[3] = y → x.ended → y.ended →
    ∃ t, exec .bootSettingsApplied s = .next t ∧ t.bootStage = .applied ∧
      (∀ b, x = .taken b →
        t.boot.protect = b.getLsbD 0 ∧
        t.boot.startMode = (if byteAt b 1 = 1 then .armAtBoot else if byteAt b 1 = 2 then .resume else .wait) ∧
        t.boot.keepStatus = b.getLsbD 16 ∧ t.boot.portOrder = (if b.getLsbD 24 then .b else .a) ∧
        t.boot.polynomial = (if b.getLsbD 32 then .b else .a) ∧
        t.boot.divider = (if fieldAt b 6 16 = 0 then 1000 else (fieldAt b 6 16).toNat) ∧
        t.boot.responseLimit = (byteAt b 8).toNat ∧
        (byteAt b 1 ∉ [0, 1, 2] ∨ fieldAt b 6 16 = 0 → t.flags.part.getLsbD 0)) ∧
      (x = .failed → t.boot = ⟨false, .wait, false, .a, .a, 1000, 50⟩ ∧ t.flags.part.getLsbD 0) ∧
      (∀ l, y = .taken l →
        (byteAt l 4 = 0 → t.logStyle = .off) ∧
        (byteAt l 4 ∉ [0, 1, 2] → t.logStyle = .off ∧ t.flags.part.getLsbD 0) ∧
        (byteAt l 4 = 1 ∨ byteAt l 4 = 2 →
          let base := lineOf (fieldAt l 0 32)
          if 2 ^ 28 < base.toNat + 32
              ∨ (base.toNat < s.controlBase.toNat + 42 ∧ s.controlBase.toNat < base.toNat + 32) then
            t.logStyle = .off ∧ t.flags.part.getLsbD 0
          else t.logStyle = (if byteAt l 4 = 1 then .wrap else .keepFirst) ∧ t.logBase = base)) ∧
      (y = .failed → t.logStyle = .off ∧ t.flags.part.getLsbD 0)

/-- BOOT forms the two pinned entries in WB_WAIT with no image and the command line afresh (R86, R153). The flags, next
sequence and held count start from memory's line 0 after a warm reset with keep-status, and from zero otherwise, with the
flags raised in BOOT set (R109); the incidents kept in BOOT are then taken in order by the tests of R163, each with the
tick of its report (notes/assumptions/18.md), and numbered (R162). -/
def Obligations.StatusCopyFormedInBoot : Prop :=
  ∀ (s : State) (x : SetupSlot) (kept : List Incident), s.bootStage = .applied → s.setup[0] = x → x.ended →
    s.logQueue = kept.map .kept → kept.length ≤ 4 →
    ∃ t, exec .statusCopyFormed s = .next t ∧ t.bootStage = .formed ∧ t.statusEntry = .wbWait none ∧
      t.commandEntry = .wbWait none ∧ t.command = ⟨0, 0, 0, 0, 0, .none, .idle, 0⟩ ∧
      ∀ (flags : StatusFlags) (next : BitVec 16) (held : Nat),
        (∀ l, x = .taken l → s.resetKind = .warm → s.boot.keepStatus →
          flags = ⟨fieldAt l 0 16 ||| s.flags.window, fieldAt l 2 16 ||| s.flags.sweepDone,
            (fieldAt l 4 16).setWidth 13 ||| s.flags.part⟩ ∧ next = fieldAt l 10 16 ∧ held = min (byteAt l 9).toNat 32) →
        (x = .failed ∨ s.resetKind = .powerOn ∨ s.boot.keepStatus = false → flags = s.flags ∧ next = 0 ∧ held = 0) →
        let taken := match s.logStyle with
          | .off => []
          | .wrap => kept
          | .keepFirst => kept.take (32 - held)
        t.logQueue = taken.mapIdx (fun k i => .record (next + BitVec.ofNat 16 k) i) ∧
        t.logNext = next + BitVec.ofNat 16 taken.length ∧ t.logHeld = min 32 (held + taken.length) ∧
        t.flags = { flags with part :=
          if s.logStyle = .keepFirst ∧ taken.length < kept.length then flags.part ||| 0x200 else flags.part }

/-- BOOT ends, its two pinned write-backs ended, by the start mode and the was-active flag (R171); a head held through
BOOT is examined in PASS (R3, R174): a READ in the pass-through class is queued. -/
def Obligations.BootEndsByStartMode : Prop :=
  ∀ s : State, s.partState = .boot → s.bootStage = .formed → s.statusWritten → s.commandWritten →
    let arms := s.boot.startMode = .armAtBoot ∨ (s.boot.startMode = .resume ∧ s.wasActive)
    (arms → ∃ t, exec .bootEnd s = .next t ∧ t.partState = .loading ∧ t.fellToDefault = false ∧ t.head = s.head ∧
      t.wasActive = s.wasActive ∧ ∀ k : Fin 42, 4 ≤ k.val → t.setup[k] = .waiting) ∧
    (¬arms → s.head = none → ∃ t, exec .bootEnd s = .next t ∧ t.partState = .pass ∧ t.setup = s.setup ∧
      t.wasActive = s.wasActive) ∧
    (¬arms → ∀ q, s.head = some q → q.body = .read → s.outstanding.contains q.tag = false →
      s.controlIndex (lineOf q.addr) = none → s.inLog (lineOf q.addr) = false → s.passQueue.length < 8 →
      ∃ t, exec .bootEnd s = .next t ∧ t.partState = .pass ∧ t.head = none ∧
        t.passQueue = s.passQueue ++ [⟨q.tag, lineOf q.addr, .read⟩] ∧ t.outstanding = s.outstanding ++ [q.tag])

/-! ### LOADING and DRAINING -/

/-- The end of LOADING: the counters loaded, the live settings as read, the event inputs afresh, the bindings and the
chord setting in force, the CLEAR requests of clear-at-arm, and the arming's result (R46, R107, R129, R130, R132, R143,
R152, R172); and each binding and the chord setting judged by its tests in order, the first that holds reported (R129,
R130). -/
def Obligations.LoadingCompleteArmsTheBridge : Prop :=
  (∀ s : State, s.partState = .loading → (∀ k : Fin 42, 4 ≤ k.val → s.setup[k].ended) → s.head = none →
    ∃ t, exec .loadingComplete s = .next t ∧ t.partState = .active ∧ t.wasActive = true ∧ t.suspects = [] ∧
      (∀ w : WindowNo, t.windows[w].armed = true ∧ t.windows[w].sequence = 0) ∧
      (∀ w : WindowNo, t.intervals[w] = (if (t.inService w).isSome then t.live.interval w else 0)) ∧
      (∀ l, s.setup[4] = .taken l → t.live.masks = l) ∧ (s.setup[4] = .failed → t.live.masks = 0) ∧
      (∀ l, s.setup[5] = .taken l → t.live.intervalsLow = l) ∧ (∀ l, s.setup[6] = .taken l → t.live.intervalsHigh = l) ∧
      t.levels = none ∧ (∀ n : InputNo, t.inputs[n] = ⟨0, 0, .inactive, 0⟩) ∧ t.chordTimer = 0 ∧
      t.chordFired = false ∧ t.servicePos = 0 ∧ t.eventClaim = none ∧ t.entries = s.entries ∧ t.boot = s.boot ∧
      (s.command.state = .running →
        t.command = { s.command with result := (if t.fellToDefault then .setupWarn else .ok), state := .done }) ∧
      (s.command.state ≠ .running →
        t.command = { s.command with result := (if t.fellToDefault then .setupWarn else .ok) }) ∧
      (∀ (n : InputNo) (line : Fin 42), line.val = 7 + n.val / 2 →
        (s.setup[line] = .failed → t.bindings[n] = none ∧ t.fellToDefault ∧ t.flags.part.getLsbD 0) ∧
        ∀ l, s.setup[line] = .taken l →
          let enabled := l.getLsbD (64 * (n.val % 2))
          (∀ b, t.bindings[n] = some b ↔ enabled = true ∧ (t.bindingTests n l).pass ∧ b.describedBy n l ∧
            t.windowOf b.target = some b.window) ∧
          (enabled = true → t.bindings[n] = none → t.fellToDefault ∧ t.flags.part.getLsbD 0)) ∧
      (s.setup[9] = .failed → t.chord = ⟨0, 0, 0⟩ ∧ t.fellToDefault ∧ t.flags.part.getLsbD 0) ∧
      (∀ l, s.setup[9] = .taken l →
        let hold := (fieldAt l 2 16).toNat
        let bad := l.extractLsb' 0 4 ≠ 0 ∧ ¬(1000 ≤ hold ∧ hold ≤ 10000)
        t.chord = ⟨if bad then 0 else l.extractLsb' 0 4, hold, (byteAt l 4).toNat⟩ ∧
        (bad → t.fellToDefault ∧ t.flags.part.getLsbD 0)) ∧
      ((s.sweepQueue.map (·.window)).Nodup →
        t.sweepQueue = s.sweepQueue ++ (List.finRange 16).filterMap fun w =>
          if s.sweepQueue.any (fun p => p.window == w) then none
          else (t.inService w).bind fun r => if r.clearAtArm then some ⟨w, .clear, .arm⟩ else none)) ∧
  (∀ (s : State) (n : InputNo) (line : Fin 42), line.val = 7 + n.val / 2 →
    let off := fun code => { s with bindings := s.bindings.set n none }.fallen none
      (s.controlLine line.val ++ BitVec.ofNat 4 n.val) code
    (s.setup[line] = .failed → s.judgeBinding n = off 0x01) ∧
    ∀ l, s.setup[line] = .taken l →
      let enabled := l.getLsbD (64 * (n.val % 2))
      (enabled = false → s.judgeBinding n = { s with bindings := s.bindings.set n none }) ∧
      (enabled = true → ∀ code, (s.bindingTests n l).first code → s.judgeBinding n = off code)) ∧
  (∀ s : State,
    (s.setup[9] = .failed →
      s.judgeChord = { s with chord := ⟨0, 0, 0⟩ }.fallen none (byteAddr (s.controlLine 9)) 0x01) ∧
    ∀ l, s.setup[9] = .taken l →
      let hold := (fieldAt l 2 16).toNat
      l.extractLsb' 0 4 ≠ 0 → ¬(1000 ≤ hold ∧ hold ≤ 10000) →
      s.judgeChord = { s with chord := ⟨0, hold, (byteAt l 4).toNat⟩ }.fallen none (byteAddr (s.controlLine 9)) 0x07)

/-- Validation. Each descriptor is judged by its tests in order, the first that holds disabling the window, with its
field code reported (R40, R41, R44); LOADING leaves a window valid exactly where its lines were read, its descriptor is
used and no test holds against the valid windows below it, with the record its descriptor describes (R34, R40, R46); and
no line lies in two of: the Control Area, the log region, the ranges and the shadow regions of the valid windows (R42).
The premise on the log region is what BOOT's own test leaves (R149). -/
def Obligations.ValidWindowsNeverShareALine : Prop :=
  (∀ (s : State) (w : WindowNo) (k m : Fin 42), k.val = 10 + 2 * w.val → m.val = 11 + 2 * w.val →
    (∀ v : WindowNo, w ≤ v → s.record v = none) →
    let off := fun code => s.fallen (some w) (byteAddr (s.controlLine k.val)) code
    (s.setup[k] = .failed ∨ s.setup[m] = .failed → s.judgeWindow w = off 0x01) ∧
    ∀ x y, s.setup[k] = .taken x → s.setup[m] = .taken y →
      (unusedDescriptor x → s.judgeWindow w = s) ∧
      (¬unusedDescriptor x →
        ((∀ r : WindowRecord, ¬r.describedBy x y) → s.judgeWindow w = off 0x02) ∧
        ∀ r : WindowRecord, r.describedBy x y →
          (∀ code, (s.windowTests w r).first code → s.judgeWindow w = off code) ∧
          ((s.windowTests w r).pass →
            s.judgeWindow w = { s with windows := s.windows.set w { s.windows[w] with record := some r } }))) ∧
  (∀ s : State, s.partState = .loading → (∀ k : Fin 42, 4 ≤ k.val → s.setup[k].ended) → s.head = none →
    ∃ t, exec .loadingComplete s = .next t ∧
      ∀ (w : WindowNo) (k m : Fin 42), k.val = 10 + 2 * w.val → m.val = 11 + 2 * w.val →
        (∀ r, t.record w = some r ↔ ∃ x y, s.setup[k] = .taken x ∧ s.setup[m] = .taken y ∧ ¬unusedDescriptor x ∧
          r.describedBy x y ∧ (t.windowTests w r).pass) ∧
        (t.record w = none → (∀ x y, s.setup[k] = .taken x → s.setup[m] = .taken y → ¬unusedDescriptor x) →
          t.fellToDefault ∧ t.flags.part.getLsbD 0)) ∧
  ∀ s t : State, s.partState = .loading → (∀ k : Fin 42, 4 ≤ k.val → s.setup[k].ended) → s.head = none →
    (∀ l : LineAddr, ¬(s.inLog l ∧ (s.controlIndex l).isSome)) →
    exec .loadingComplete s = .next t →
    ∀ l : LineAddr, ¬(t.inLog l ∧ (t.controlIndex l).isSome) ∧
      (∀ (w : WindowNo) (r : WindowRecord), t.record w = some r → lineIn r.base r.length l →
        t.controlIndex l = none ∧ t.inLog l = false ∧ (∀ v, t.shadowHolds l v = false) ∧
        ∀ (v : WindowNo) (q : WindowRecord), t.record v = some q → lineIn q.base q.length l → v = w) ∧
      (∀ w : WindowNo, t.shadowHolds l w →
        t.controlIndex l = none ∧ t.inLog l = false ∧ ∀ v, t.shadowHolds l v → v = w)

/-- The end of DRAINING: with no general entry in use and the engine IDLE the tables are emptied, DISARM completes with
OK and the part enters PASS; the masks in force are kept (R47, R107, R131, R143, R173; that the engine must be IDLE is
notes/assumptions/19.md). -/
def Obligations.DrainingEndEmptiesTheTables : Prop :=
  ∀ s : State, s.partState = .draining → (∀ i : Fin 12, s.entries[i] = .free) → s.engine = none → s.head = none →
    exec .drainingEnd s = .next (s.commit ((({ s with
      windows := Vector.replicate 16 ⟨none, false, 0⟩, bindings := Vector.replicate 4 none, chord := ⟨0, 0, 0⟩
      suspects := [], intervals := Vector.replicate 16 0, intervalDue := 0, wasActive := false
      command := { s.command with result := .ok, state := .done }, partState := .pass }).setPartFlag .commandDone).report
        .state none (byteAddr s.controlBase) 1))

/-! ### Time and the event inputs -/

/-- A tick increment in any state but a held reset: the counts, the pins, and the comparison of R26 under the limit in
force for every request outstanding before it, which stays outstanding with the mark the comparison gives
(notes/assumptions/7.md). A request the last comparison found expired is RETIRED first; the other tags stay as they are.
-/
def Obligations.TickIncrementCounts : Prop :=
  ∀ (levels : BitVec 4) (s : State), s.bootStage ≠ .inReset →
    ∃ t, exec (.tickIncrement levels) s = .next t ∧ t.tick = s.tick + 1 ∧ t.cycles = 0 ∧ t.evLevels = levels ∧
      t.ursp = none ∧ t.partState = s.partState ∧
      ∀ d : DownTag,
        (∀ rec : TagRecord, s.tags[d] = .outstanding rec → rec.expired = false →
          t.tags[d] = .outstanding { rec with expired :=
            s.boot.responseLimit != 0 && decide (s.boot.responseLimit < (t.tick - rec.issueTick).toNat) }) ∧
        (∀ rec : TagRecord, s.tags[d] = .outstanding rec → rec.expired = true → t.tags[d] = .retired) ∧
        (s.tags[d] = .free → t.tags[d] = .free) ∧ (s.tags[d] = .retired → t.tags[d] = .retired)

/-- A tick increment in ACTIVE with nothing left over from the last one: the counters above 0 fall by one and one that
reaches 0 is due (R143; the mark is notes/assumptions/7.md); the first sample sets the levels (R120), a later one the
debounce counts (R121) and the stuck timers (R125), and the chord timer while every member is active, the flag clear and
no member's change is due (R127). -/
def Obligations.TickSamplesAndCountsDown : Prop :=
  ∀ (levels : BitVec 4) (s : State), s.bootStage ≠ .inReset → s.partState = .active → s.quiet →
    ∃ t, exec (.tickIncrement levels) s = .next t ∧
      (∀ w : WindowNo, t.intervals[w] = s.intervals[w] - 1) ∧
      (∀ w : WindowNo, s.intervals[w] = 1 → t.intervalDue.getLsbD w.val) ∧
      (∀ w : WindowNo, s.intervals[w] ≠ 1 → t.intervalDue.getLsbD w.val = s.intervalDue.getLsbD w.val) ∧
      (s.levels = none → t.levels = some levels ∧ t.chordTimer = 0 ∧ ∀ n : InputNo,
        t.inputs[n] = { s.inputs[n] with
          debounceCount := 0, stuckTimer := 0
          stuck := if levels.getLsbD n.val ∧ s.bindings[n].isSome then .pressed else .inactive }) ∧
      (∀ v, s.levels = some v → t.levels = some v ∧ ∀ n : InputNo,
        t.inputs[n].pending = s.inputs[n].pending ∧ t.inputs[n].stuck = s.inputs[n].stuck ∧
        t.inputs[n].debounceCount =
          (if levels.getLsbD n.val = v.getLsbD n.val then 0 else s.inputs[n].debounceCount + 1) ∧
        (s.inputs[n].stuck ≠ .pressed ∨ s.chord.stuckLimit = 0 → t.inputs[n].stuckTimer = s.inputs[n].stuckTimer) ∧
        (s.inputs[n].stuck = .pressed → s.chord.stuckLimit ≠ 0 → levels.getLsbD n.val = v.getLsbD n.val →
          t.inputs[n].stuckTimer = s.inputs[n].stuckTimer + 1) ∧
        (let held := s.chord.members ≠ 0 ∧ s.chord.members &&& v = s.chord.members
         let memberDue := ∃ m : InputNo, s.chord.members.getLsbD m.val ∧ t.inputs[m].debounceCount = s.debounceTime m + 1
         (held → s.chordFired = false → ¬memberDue → t.chordTimer = s.chordTimer + 1) ∧
         (¬held ∨ s.chordFired ∨ memberDue → t.chordTimer = s.chordTimer))) ∧
      t.chordFired = s.chordFired ∧ t.eventClaim = s.eventClaim ∧
      t.entries = s.entries ∧ t.flags = s.flags ∧ t.sweepQueue = s.sweepQueue

/-- An accepted change (R121): the debounced level, the count, the edge (R122), a STUCK input's edge uncounted (R126),
the stuck state (Table 8-3), the chord of a member (R127), and the claim the unit makes once every edge of the sample is
counted: the first input with a pending count from the service position on (R123; notes/assumptions/7.md). -/
def Obligations.AcceptedChangeCountsTheEdge : Prop :=
  ∀ (n : InputNo) (s : State) (v : BitVec 4), s.partState = .active → s.levels = some v →
    s.inputs[n].debounceCount = s.debounceTime n + 1 →
    ∃ t, exec (.acceptedChange n) s = .next t ∧ t.levels = some (v ^^^ (1#4 <<< n.val)) ∧
      t.inputs[n].debounceCount = 0 ∧ (∀ m : InputNo, m ≠ n → t.inputs[m] = s.inputs[m]) ∧
      (s.bindings[n] = none → t.inputs[n] = { s.inputs[n] with debounceCount := 0 } ∧ t.flags = s.flags) ∧
      (∀ b : Binding, s.bindings[n] = some b →
        let rises := v.getLsbD n.val = false
        let counted := s.inputs[n].stuck ≠ .stuck
          ∧ (b.edge = .both ∨ (b.edge = .rising ∧ rises) ∨ (b.edge = .falling ∧ ¬rises))
        (counted → s.inputs[n].pending < 15 →
          t.inputs[n].pending = s.inputs[n].pending + 1 ∧ t.flags = s.flags) ∧
        (counted → 15 ≤ s.inputs[n].pending →
          t.inputs[n].pending = s.inputs[n].pending ∧ t.flags.part.getLsbD 5) ∧
        (¬counted → t.inputs[n].pending = s.inputs[n].pending ∧ t.flags = s.flags) ∧
        (rises → t.inputs[n].stuck = .pressed ∧ t.inputs[n].stuckTimer = 0) ∧
        (¬rises → t.inputs[n].stuck = .inactive)) ∧
      (s.chord.members.getLsbD n.val = false → t.chordTimer = s.chordTimer ∧ t.chordFired = s.chordFired) ∧
      (s.chord.members.getLsbD n.val = true → ∀ now, t.levels = some now →
        (s.chord.members &&& now ≠ s.chord.members → t.chordTimer = 0 ∧ t.chordFired = false) ∧
        (s.chord.members &&& now = s.chord.members → t.chordFired = s.chordFired ∧
          t.chordTimer = if s.chordFired then s.chordTimer else 0)) ∧
      (∀ m, s.eventClaim = some m → t.eventClaim = some m) ∧
      (s.eventClaim = none →
        ((∀ m : InputNo, m ≠ n → s.edgeDue m = false) → t.eventClaim =
          [s.servicePos, s.servicePos + 1, s.servicePos + 2, s.servicePos + 3].find? fun m =>
            (s.bindings[m]).isSome && decide (0 < t.inputs[m].pending)) ∧
        ((∃ m : InputNo, m ≠ n ∧ s.edgeDue m = true) →
          (∀ m : InputNo, 0 < s.inputs[m].pending → s.newCounts.getLsbD m.val = true) → t.eventClaim = none))

/-- A PRESSED input whose timer has reached the limit becomes STUCK, with the flag and the incident (R125). -/
def Obligations.StuckInputIsReported : Prop :=
  ∀ (n : InputNo) (s : State) (b : Binding), s.partState = .active → s.bindings[n] = some b →
    s.inputs[n].stuck = .pressed → s.chord.stuckLimit ≠ 0 → s.inputs[n].stuckTimer = 100 * s.chord.stuckLimit →
    exec (.eventStuck n) s = .next (s.commit ((({ s with
      inputs := s.inputs.set n { s.inputs[n] with stuck := .stuck } }).setPartFlag .eventStuck).report .eventStuck
        (some b.window) (byteAddr b.target) (BitVec.ofNat 32 n.val)))

/-- The chord fires once: its flag is set and a request is queued for each window in service with a chord action, in
ascending order, but for windows that have one queued (R127, R128, R133). -/
def Obligations.ChordHandsItsSweeps : Prop :=
  ∀ (s : State) (v : BitVec 4), s.partState = .active → s.levels = some v → s.chord.members ≠ 0 →
    s.chord.members &&& v = s.chord.members → s.chordTimer = s.chord.holdTime → s.chordFired = false →
    (s.sweepQueue.map (·.window)).Nodup →
    ∃ t, exec .chordFires s = .next t ∧ t.chordFired = true ∧ t.chordTimer = s.chordTimer ∧ t.entries = s.entries ∧
      t.sweepQueue = s.sweepQueue ++ (List.finRange 16).filterMap fun w =>
        if s.sweepQueue.any (fun p => p.window == w) then none
        else ((s.inService w).bind (·.chordAction)).map fun a => ⟨w, a, .chord⟩

/-- An interval counter's expiry: the counter is loaded again with the interval in force and, with an interval action,
one request is queued, or dropped as an overrun (R133, R143; lower windows first by notes/assumptions/21.md). -/
def Obligations.IntervalExpiryReloadsAndHands : Prop :=
  ∀ (w : WindowNo) (s : State) (r : WindowRecord), s.partState = .active → s.inService w = some r →
    s.intervalDue.getLsbD w.val → (∀ v : WindowNo, v < w → s.intervalDue.getLsbD v.val = false) →
    ∃ t, exec (.intervalExpiry w) s = .next t ∧ t.intervals = s.intervals.set w (s.live.interval w) ∧
      t.intervalDue = s.intervalDue &&& ~~~(windowMask w) ∧ t.engine = s.engine ∧
      (r.intervalAction = none → t.sweepQueue = s.sweepQueue ∧ t.flags = s.flags) ∧
      ∀ a, r.intervalAction = some a →
        let dropped := s.sweepQueue.any (fun p => p.window == w) || decide (16 ≤ s.sweepQueue.length)
        (dropped = false → t.sweepQueue = s.sweepQueue ++ [⟨w, a, .interval⟩] ∧ t.flags = s.flags) ∧
        (dropped = true → t.sweepQueue = s.sweepQueue ∧ t.flags.part.getLsbD 7)

/-- The expiry of an outstanding request retires its tag, sets MEMORY_TIMEOUT, reports one incident but for a LOG write,
and tells the origin: a pass-through request is answered FAULT, a fetch ends in a fault, a write-back and a shadow write
have failed, a record is dropped, a setup read has failed (R26, R28, R29, R81, R82, R85, R87, R140, R164). -/
def Obligations.ExpiryRetiresTheTag : Prop :=
  ∀ (d : DownTag) (s : State) (rec : TagRecord), s.tags[d] = .outstanding rec → rec.expired → s.awaited d rec.origin →
    ∃ t, exec (.requestExpiry d) s = .next t ∧ t.tags = s.tags.set d .retired ∧ t.flags.part.getLsbD 3 ∧
      t.passQueue = s.passQueue ∧ t.dreq = s.dreq ∧ t.suspects = s.suspects ∧
      (let reported := fun (window : Option WindowNo) (line : LineAddr) (detail : BitVec 32) =>
         s.bootStage = .formed → s.logStyle = .wrap → s.logQueue = [] →
           t.logQueue = [.record s.logNext ⟨.memoryTimeout, window, s.tick, byteAddr line, detail⟩]
       (∀ tag, rec.origin = .pass tag → reported none rec.line 1 ∧
         t.responses = s.responses ++ [⟨tag, .fault, none⟩] ∧ tag ∉ t.outstanding) ∧
       (∀ i h q, rec.origin = .fetch i → s.entries[i] = .fetching h q d → t.entries = s.entries.set i .free ∧
         t.responses = s.responses ++ q.filterMap (fun x : Item => match x with
           | .read tag => some (⟨tag, .fault, none⟩ : UpResponse)
           | _ => none) ∧
         reported (some h.window) h.line (BitVec.ofNat 32 (q.countP fun x : Item => match x with
           | .update .. => true
           | _ => false))) ∧
       (∀ i h copy image mark dirty sent, rec.origin = .writeback (.general i) →
         s.entries[i] = .writing h copy image mark dirty sent d →
         t.entries = s.entries.set i (if dirty then .wbWait h copy image false else .free) ∧
         reported (some h.window) h.line 3 ∧
         t.command = if mark then { s.command with result := .memoryFault, state := .done } else s.command) ∧
       (∀ image dirty sent, rec.origin = .writeback .status → s.statusEntry = .writing image dirty sent d →
         reported none (s.controlLine 0) 3 ∧ t.statusWritten = true ∧ (dirty → t.statusEntry = .wbWait image)) ∧
       (∀ image dirty sent, rec.origin = .writeback .command → s.commandEntry = .writing image dirty sent d →
         reported none (s.controlLine 1) 3 ∧ t.commandWritten = true ∧ (dirty → t.commandEntry = .wbWait image)) ∧
       (∀ w target sw, rec.origin = .shadow w target → s.engine = some sw → (d, target) ∈ sw.issued →
         reported (some w) rec.line 4 ∧
         let left := sw.issued.filter fun p => p.1 != d
         t.engine = some (match target with
           | .line _ => { sw with issued := left, failed := sw.failed + 1 }
           | .opening => { sw with issued := left, headerFailed := true }
           | .ending => { sw with issued := left, endHeader := .answered true })) ∧
       (∀ n, rec.origin = .log n → t.flags = { s.flags with part := s.flags.part ||| 0x8 ||| 0x400 } ∧
         t.logQueue = s.logQueue ∧ t.logNext = s.logNext ∧ t.logHeld = s.logHeld) ∧
       (∀ k, rec.origin = .setup k → reported none rec.line 6 ∧ t.setup = s.setup.set k .failed))

/-! ### The Upstream Port -/

/-- The Window Decoder's classes, in the order of Table 1-1, the Control Area's lines from the base SETUP_SEL chose
(R6, R148). -/
def Obligations.DecoderFollowsTable1 : Prop :=
  ∀ (s : State) (l : LineAddr),
    (∀ k : Fin 42, (byteAddr (s.controlLine k.val)).toNat = s.setupSel.toNat * 0x20000000 + k.val * 0x10) ∧
    (∀ k : Fin 42, l = s.controlLine k.val →
      s.classify l = (if k.val = 0 then .status else if k.val = 1 then .command else .control k)) ∧
    ((∀ k : Fin 42, l ≠ s.controlLine k.val) →
      let inLog := s.logStyle ≠ .off ∧ s.logBase.toNat ≤ l.toNat ∧ l.toNat < s.logBase.toNat + 32
      let inShadow := s.partState = .active ∧ ∃ (w : WindowNo) (r : WindowRecord), s.record w = some r ∧
        r.shadowBase ≠ 0 ∧ r.shadowBase.toNat ≤ l.toNat ∧ l.toNat < r.shadowBase.toNat + (r.length + 1)
      let inWindow := fun w : WindowNo => s.partState = .active ∧ ∃ r : WindowRecord, s.record w = some r ∧
        r.enable ∧ r.base.toNat ≤ l.toNat ∧ l.toNat < r.base.toNat + r.length
      (inLog → s.classify l = .log) ∧ (¬inLog → inShadow → s.classify l = .shadow) ∧
      (¬inLog → ¬inShadow → ∀ w, inWindow w → ∃ v, inWindow v ∧ s.classify l = .window v) ∧
      (¬inLog → ¬inShadow → (∀ w, ¬inWindow w) → s.classify l = .pass))

/-- A request in the pass-through class, and a READ of a Control Area, log or shadow line, is queued for memory unchanged
with its tag outstanding while a place is free, and stalls as the head otherwise (R7, R8, R14, R16). -/
def Obligations.PassThroughQueuedOrStalled : Prop :=
  ∀ (q : UpRequest) (s : State), s.serves q.tag →
    (s.classify (lineOf q.addr) = .pass ∨ (q.body = .read ∧ (s.classify (lineOf q.addr) = .log
      ∨ s.classify (lineOf q.addr) = .shadow ∨ ∃ k, s.classify (lineOf q.addr) = .control k))) →
    (s.passQueue.length < 8 → exec (.passThroughRequest q) s = .next (s.commit { s with
      passQueue := s.passQueue ++ [⟨q.tag, lineOf q.addr, q.body⟩], outstanding := s.outstanding ++ [q.tag] })) ∧
    (8 ≤ s.passQueue.length → exec (.passThroughRequest q) s = .next (s.commit { s with head := some q }))

/-- Refused requests reach no line and no setting: a tag in use (R5), a write to a part-owned line (R8, R112), a command
write while a command runs or without bytes 0–7 (R13), a write to lines 3–41 with protect set (R10). -/
def Obligations.RefusedRequestsReachNothing : Prop :=
  ∀ (tag : UpTag) (addr : ByteAddr) (e : Enables) (data : Line) (s : State),
    s.head = none → s.bootStage ≠ .inReset → s.examines →
    (s.outstanding.contains tag → ∀ b : ReqBody, exec (.passThroughRequest ⟨tag, addr, b⟩) s =
      .next (s.commit (s.refusedWith tag addr none .tagInUse))) ∧
    (s.outstanding.contains tag = false →
      (s.classify (lineOf addr) = .status ∨ s.classify (lineOf addr) = .log ∨ s.classify (lineOf addr) = .shadow →
        exec (.partOwnedWrite tag addr e data) s = .next (s.commit (s.refusedWith tag addr none .partOwned))) ∧
      (s.command.state = .running → exec (.commandWriteRefused tag e data) s =
        .next (s.commit (s.refusedWith tag (byteAddr (s.controlLine 1)) none .commandBusy))) ∧
      (s.command.state ≠ .running → e.extractLsb' 0 8 ≠ 0xFF → exec (.commandWriteRefused tag e data) s =
        .next (s.commit (s.refusedWith tag (byteAddr (s.controlLine 1)) none .commandShort))) ∧
      (s.boot.protect → ∀ k : Fin 42, 3 ≤ k.val → exec (.controlAreaLineWrite tag k e data) s =
        .next (s.commit (s.refusedWith tag (byteAddr (s.controlLine k.val)) none .protect))))

/-- A window write that passes its tests is answered OKAY and becomes an UPDATE of origin UP: it opens the lowest FREE
entry, joins the queue of the entry that fetches its line, or is applied to the copy (R9, R71, R73, R74). Where its item
cannot be taken now, for lack of an entry or a queue place or for a claim that comes first, the head stalls (R14, R88,
R89; that it stays behind a claim that can be taken is notes/assumptions/8.md). -/
def Obligations.WindowWriteIsPosted : Prop :=
  (∀ (tag : UpTag) (addr : ByteAddr) (e : Enables) (data : Line) (s : State) (w : WindowNo) (r : WindowRecord),
    let l := lineOf addr
    let item : Item := .update .up data (r.format.laneSet e)
    let u := s.respond tag .okay none
    s.serves tag → s.classify l = .window w → s.record w = some r → e ≠ 0 → r.laneRefusal e = none →
    s.listed l = false →
    (s.headTakeable l = false → exec (.windowWrite tag addr e data) s =
      .next (s.commit { s with head := some ⟨tag, addr, .write e data⟩ })) ∧
    (s.headTakeable l →
      (∀ i, s.place l = .openAt i → exec (.windowWrite tag addr e data) s =
        .next (s.commit { u with entries := s.entries.set i (.fetchWait ⟨l, w⟩ [item]) })) ∧
      (∀ i h q, s.place l = .join i → s.entries[i] = .fetchWait h q → exec (.windowWrite tag addr e data) s =
        .next (s.commit { u with entries := s.entries.set i (.fetchWait h (q ++ [item])) })) ∧
      (∀ i h q d, s.place l = .join i → s.entries[i] = .fetching h q d → exec (.windowWrite tag addr e data) s =
        .next (s.commit { u with entries := s.entries.set i (.fetching h (q ++ [item]) d) })) ∧
      (∀ i h copy image mark, s.place l = .apply i → s.entries[i] = .wbWait h copy image mark → h.window = w →
        ∃ t, exec (.windowWrite tag addr e data) s = .next t ∧ t.responses = s.responses ++ [⟨tag, .okay, none⟩] ∧
          t.entries = s.entries.set i (.wbWait h (r.update s.tick (r.format.laneSet e) data copy) image mark)) ∧
      (∀ i h copy image mark dirty sent d, s.place l = .apply i →
        s.entries[i] = .writing h copy image mark dirty sent d → h.window = w →
        let new := r.update s.tick (r.format.laneSet e) data copy
        ∃ t, exec (.windowWrite tag addr e data) s = .next t ∧ t.responses = s.responses ++ [⟨tag, .okay, none⟩] ∧
          t.entries = s.entries.set i (.writing h new image mark (dirty || new != copy) sent d)))) ∧
  (∀ (s : State) (l : LineAddr), s.headTakeable l = true ↔
    ((∃ i, s.place l = .apply i) ∨ (∃ i, s.place l = .join i) ∨ ∃ i, s.place l = .openAt i) ∧
      s.sweepReady = false ∧ s.repairReady = false ∧ s.eventReady = false)

/-- A window write with no byte enabled is answered OKAY and changes nothing, a listed line included (R12); one that
fails a lane test, or meets a listed line, is refused with the first reason and reaches no line (R10, R11). -/
def Obligations.WindowWriteRefusedOrEmpty : Prop :=
  ∀ (tag : UpTag) (addr : ByteAddr) (e : Enables) (data : Line) (s : State) (w : WindowNo) (r : WindowRecord),
    s.serves tag → s.classify (lineOf addr) = .window w → s.record w = some r →
    (e = 0 → exec (.windowWrite tag addr e data) s = .next (s.commit (s.respond tag .okay none))) ∧
    (e ≠ 0 → ∀ x, r.laneRefusal e = some x →
      exec (.windowWrite tag addr e data) s = .next (s.commit (s.refusedWith tag addr (some w) x))) ∧
    (e ≠ 0 → r.laneRefusal e = none → s.listed (lineOf addr) →
      exec (.windowWrite tag addr e data) s = .next (s.commit (s.refusedWith tag addr (some w) .suspect)))

/-- The lane tests of R11, in their order, read off the enabled bytes; and the lane set of R9. -/
def Obligations.LaneTestsReadTheEnables : Prop :=
  ∀ (r : WindowRecord) (e : Enables),
    let w := r.format.width / 8
    let split := ∃ i < r.format.lanes, ∃ a < w, ∃ b < w, e.getLsbD (i * w + a) = true ∧ e.getLsbD (i * w + b) = false
    let whole := fun i => ∀ b < w, e.getLsbD (i * w + b) = true
    let check := r.check = true ∧ r.function ≠ .extreme ∧ (e.getLsbD 14 = true ∨ e.getLsbD 15 = true
      ∨ (r.format = .u32 ∧ (e.getLsbD 12 = true ∨ e.getLsbD 13 = true)))
    let odd := r.function = .difference ∧ ∃ i < r.format.lanes, whole i ∧ (i % 2 = 1 ∨ r.dataLanes ≤ i + 1)
    (split → r.laneRefusal e = some .laneSplit) ∧ (¬split → check → r.laneRefusal e = some .checkLane) ∧
    (¬split → ¬check → odd → r.laneRefusal e = some .oddLane) ∧
    (¬split → ¬check → ¬odd → r.laneRefusal e = none) ∧
    (r.laneRefusal e = none → ∀ b < 16, e.getLsbD b = true →
      whole (b / w) ∧ (r.function ≠ .extreme → b / w < r.dataLanes)) ∧
    ∀ i < 8, (r.format.laneSet e).getLsbD i = true ↔ i < r.format.lanes ∧ whole i

/-- A window read: FAULT for a listed line, with no other effect (R12); queued with its tag outstanding where the line
is to be fetched; answered with the copy, and the copy cleared under read action CLEAR, where the entry holds one, which
sets re-dirty in WRITING if it changes it (R63 to R65, R73, R74); stalled where its item cannot be taken now (R14; also
behind a claim that can be taken, notes/assumptions/8.md). A clear leaves the values of Table 3-5 in the data lanes and
the held bytes as they were, and the cleared line has them zero (R39, R67). -/
def Obligations.WindowReadAnsweredOrQueued : Prop :=
  (∀ (tag : UpTag) (addr : ByteAddr) (s : State) (w : WindowNo) (r : WindowRecord),
    let l := lineOf addr
    let clear := fun copy => if r.readAction = .clear then r.clearInPlace copy else copy
    let answered := fun copy => s.responses ++ [⟨tag, .okay, some (r.fillHeld s.boot.polynomial copy)⟩]
    s.serves tag → s.classify l = .window w → s.record w = some r →
    (s.listed l → exec (.windowRead tag addr) s = .next (s.commit (s.respond tag .fault none))) ∧
    (s.listed l = false → s.headTakeable l = false →
      exec (.windowRead tag addr) s = .next (s.commit { s with head := some ⟨tag, addr, .read⟩ })) ∧
    (s.listed l = false → s.headTakeable l →
      (∀ i, s.place l = .openAt i → exec (.windowRead tag addr) s = .next (s.commit { s with
        entries := s.entries.set i (.fetchWait ⟨l, w⟩ [.read tag]), outstanding := s.outstanding ++ [tag] })) ∧
      (∀ i h q, s.place l = .join i → s.entries[i] = .fetchWait h q →
        exec (.windowRead tag addr) s = .next (s.commit { s with
          entries := s.entries.set i (.fetchWait h (q ++ [.read tag])), outstanding := s.outstanding ++ [tag] })) ∧
      (∀ i h q d, s.place l = .join i → s.entries[i] = .fetching h q d →
        exec (.windowRead tag addr) s = .next (s.commit { s with
          entries := s.entries.set i (.fetching h (q ++ [.read tag]) d), outstanding := s.outstanding ++ [tag] })) ∧
      (∀ i h copy image mark, s.place l = .apply i → s.entries[i] = .wbWait h copy image mark → h.window = w →
        exec (.windowRead tag addr) s = .next (s.commit { s with
          responses := answered copy, entries := s.entries.set i (.wbWait h (clear copy) image mark) })) ∧
      (∀ i h copy image mark dirty sent d, s.place l = .apply i →
        s.entries[i] = .writing h copy image mark dirty sent d → h.window = w →
        exec (.windowRead tag addr) s = .next (s.commit { s with
          responses := answered copy
          entries := s.entries.set i (.writing h (clear copy) image mark (dirty || clear copy != copy) sent d) })))) ∧
  (∀ (r : WindowRecord) (copy : Line) (i : Nat), i < r.format.lanes →
    let w := r.format.width
    let value : Int := if r.function ≠ .extreme then 0 else match i with
      | 0 => if r.format = .s16 then 32767 else 65535
      | 1 => 65535
      | 2 => if r.format = .s16 then -32768 else 0
      | 3 => 65535
      | _ => 0
    (r.function = .extreme → r.format ≠ .u32) →
    (i < r.dataLanes → laneBits w i (r.clearInPlace copy) = BitVec.ofInt w value ∧
      laneBits w i r.clearedLine = BitVec.ofInt w value) ∧
    (r.dataLanes ≤ i → laneBits w i (r.clearInPlace copy) = laneBits w i copy ∧ laneBits w i r.clearedLine = 0))

/-- A READ of the status line in PASS or ACTIVE: the line as the copy holds it, its tick field the tick counter, and
every read-clear flag cleared (R111). A READ of the command line is answered with the line as the copy holds it and
changes nothing (R7, Table 13-3). -/
def Obligations.StatusReadClearsTheFlags : Prop :=
  ∀ (tag : UpTag) (s : State), s.serves tag →
    exec (.statusLineRead tag) s = .next (s.commit { s with
      flags := ⟨0, 0, 0⟩
      responses := s.responses ++ [⟨tag, .okay, some (s.tick ++ s.logNext ++ BitVec.ofNat 8 s.logHeld
        ++ BitVec.ofNat 8 s.inUse ++ BitVec.ofNat 8 s.suspects.length ++ s.partState.code
        ++ s.flags.part.setWidth 16 ++ s.flags.sweepDone ++ s.flags.window)⟩] }) ∧
    exec (.passThroughRequest ⟨tag, byteAddr (s.controlLine 1), .read⟩) s = .next (s.commit { s with
      responses := s.responses ++ [⟨tag, .okay, some (0#32 ++ s.command.count ++ s.command.state.code
        ++ s.command.result.code ++ s.command.argument ++ s.command.swTag ++ s.command.action ++ s.command.window
        ++ s.command.code)⟩] })

/-- A write accepted to line 2 is forwarded unchanged and sets the protect setting where it enables byte 0 (R17, R151);
with the pass-through queue full it stalls and sets nothing (R14). -/
def Obligations.ProtectWriteTakesTheField : Prop :=
  ∀ (tag : UpTag) (e : Enables) (data : Line) (s : State), s.serves tag →
    (s.passQueue.length < 8 → exec (.protectWrite tag e data) s = .next (s.commit { s with
      boot := { s.boot with protect := if e.getLsbD 0 then data.getLsbD 0 else s.boot.protect }
      outstanding := s.outstanding ++ [tag]
      passQueue := s.passQueue ++ [⟨tag, s.controlLine 2, .write e data⟩] })) ∧
    (8 ≤ s.passQueue.length → exec (.protectWrite tag e data) s = .next (s.commit { s with
      head := some ⟨tag, byteAddr (s.controlLine 2), .write e data⟩ }))

/-- A write accepted to lines 4 to 6 in ACTIVE is forwarded and merged into its copy byte by enabled byte; an interval
touched restarts the counter of its window if that is in service, and an invalid one stops it with SETUP_FAULT (R144,
R150); an expiry of the last tick still to be taken stands (R143, R144; notes/assumptions/7.md). In PASS it is forwarded only. -/
def Obligations.LiveWriteTakesMasksAndIntervals : Prop :=
  ∀ (tag : UpTag) (k : Fin 42) (e : Enables) (data : Line) (s : State), s.serves tag → s.passQueue.length < 8 →
    s.boot.protect = false → 4 ≤ k.val → k.val ≤ 6 →
    ∃ t, exec (.liveSettingWrite tag k e data) s = .next t ∧ t.outstanding = s.outstanding ++ [tag] ∧
      t.passQueue = s.passQueue ++ [⟨tag, s.controlLine k.val, .write e data⟩] ∧ t.windows = s.windows ∧
      t.sweepQueue = s.sweepQueue ∧ t.intervalDue = s.intervalDue ∧
      (s.partState = .pass → t.live = s.live ∧ t.intervals = s.intervals ∧ t.flags = s.flags) ∧
      (s.partState = .active →
        (k.val = 4 → t.live = { s.live with masks := mergeBytes e data s.live.masks } ∧ t.intervals = s.intervals) ∧
        (k.val = 5 → t.live = { s.live with intervalsLow := mergeBytes e data s.live.intervalsLow }) ∧
        (k.val = 6 → t.live = { s.live with intervalsHigh := mergeBytes e data s.live.intervalsHigh }) ∧
        (5 ≤ k.val → ∀ w : WindowNo,
          let touched := w.val / 8 = k.val - 5 ∧ (e.getLsbD (2 * (w.val % 8)) ∨ e.getLsbD (2 * (w.val % 8) + 1))
          let value := (t.live.intervalField w).toNat
          (¬touched → t.intervals[w] = s.intervals[w]) ∧
          (touched → (s.inService w).isSome →
            t.intervals[w] = (if 1 ≤ value ∧ value ≤ 9 then 0 else value)) ∧
          (touched → s.inService w = none → t.intervals[w] = 0) ∧
          (touched → 1 ≤ value ∧ value ≤ 9 → t.flags.part.getLsbD 0)))

/-- A write accepted to another Control Area line is forwarded to memory and changes no setting (R7). A write to any of
lines 3 to 41, the live settings' lines among them, stalls with the pass-through queue full and changes no setting
(R14). -/
def Obligations.ControlAreaWriteIsForwarded : Prop :=
  ∀ (tag : UpTag) (k : Fin 42) (e : Enables) (data : Line) (s : State), s.serves tag → s.boot.protect = false →
    3 ≤ k.val →
    (s.passQueue.length < 8 → k.val = 3 ∨ 7 ≤ k.val →
      exec (.controlAreaLineWrite tag k e data) s = .next (s.commit { s with
        outstanding := s.outstanding ++ [tag]
        passQueue := s.passQueue ++ [⟨tag, s.controlLine k.val, .write e data⟩] })) ∧
    (8 ≤ s.passQueue.length →
      let stalled := s.commit { s with head := some ⟨tag, byteAddr (s.controlLine k.val), .write e data⟩ }
      exec (.controlAreaLineWrite tag k e data) s = .next stalled ∧
      exec (.liveSettingWrite tag k e data) s = .next stalled)

/-- In BOOT, LOADING and DRAINING a request is taken as the head and held unexamined; while a head is held, or in reset,
none is taken (R3, R168), which changes nothing (notes/assumptions/4.md). In PASS and ACTIVE a head that waits is examined
again as though it arrived now (R4, R90), and a stalled one is accepted once a place is free (R14). The model's choices:
HEAD_REEXAMINATION may be brought whenever a head is held (notes/assumptions/27.md), and it leaves the state as it is for
a head of a window line while an internal claim can be taken (notes/assumptions/8.md, 27.md, 2.md), which keeps the order
of R89 and R90. -/
def Obligations.HeadHeldThenReexamined : Prop :=
  ∀ (q : UpRequest) (s : State),
    (s.head = none → s.bootStage ≠ .inReset → s.examines = false →
      exec (.headRequestHeld q) s = .next (s.commit { s with head := some q })) ∧
    (s.head.isSome ∨ s.bootStage = .inReset → exec (.headRequestHeld q) s = .next s) ∧
    (s.head = some q → s.bootStage ≠ .inReset → s.examines →
      (∀ w, s.classify (lineOf q.addr) = .window w →
        s.sweepReady = false ∧ s.repairReady = false ∧ s.eventReady = false) →
      exec .headReexamination s = exec (.passThroughRequest q) { s with head := none }) ∧
    (s.head = some q → (∃ w, s.classify (lineOf q.addr) = .window w) →
      s.sweepReady ∨ s.repairReady ∨ s.eventReady → exec .headReexamination s = .next s) ∧
    (s.head = some q → s.examines → s.outstanding.contains q.tag = false → s.classify (lineOf q.addr) = .pass →
      s.passQueue.length < 8 → exec .headReexamination s = .next (s.commit { s with
        head := none, outstanding := s.outstanding ++ [q.tag]
        passQueue := s.passQueue ++ [⟨q.tag, lineOf q.addr, q.body⟩] }))

/-! ### Commands of the command line -/

/-- ARM taken in PASS: LOADING, the mark clear, the reads of lines 4 to 41 placed, the command RUNNING (R155, R172). -/
def Obligations.ArmEntersLoading : Prop :=
  ∀ (tag : UpTag) (cmd : CommandWrite) (s : State), s.takesCommand tag → s.partState = .pass →
    exec (.arm tag cmd) s = .next (s.commit (({ s.taken tag 0x01 cmd with
      fellToDefault := false, partState := .loading
      setup := Vector.ofFn fun k => if 4 ≤ k.val then .waiting else s.setup[k] }).report .state none
        (byteAddr s.controlBase) 2))

/-- DISARM taken in ACTIVE: DRAINING, the Sweep Queue empty, the event inputs' counts dropped, the command RUNNING; a
sweep is abandoned, its waiting claim and ungranted writes withdrawn, unless its closing header has its tag (R131, R145,
R156, R173). -/
def Obligations.DisarmEntersDraining : Prop :=
  (∀ (tag : UpTag) (cmd : CommandWrite) (s : State), s.takesCommand tag → s.partState = .active →
    exec (.disarm tag cmd) s = .next (s.commit (({ s.taken tag 0x02 cmd with
      sweepQueue := [], engine := s.engine.map Sweep.atDisarm, intervalDue := 0
      levels := none, inputs := Vector.replicate 4 ⟨0, 0, .inactive, 0⟩, chordTimer := 0, chordFired := false
      servicePos := 0, eventClaim := none, newCounts := 0, partState := .draining }).report .state none
        (byteAddr s.controlBase) 4))) ∧
  (∀ sw : Sweep,
    (sw.phase = .closing ∧ sw.endGranted → sw.atDisarm = sw) ∧
    (¬(sw.phase = .closing ∧ sw.endGranted) →
      sw.atDisarm.abandoning = true ∧ sw.atDisarm.waiting = [] ∧ sw.atDisarm.issued = sw.issued ∧
      sw.atDisarm.copied = sw.copied ∧ sw.atDisarm.failed = sw.failed ∧ sw.atDisarm.nextIndex = sw.nextIndex ∧
      (sw.inFlight = .accepted → sw.atDisarm.inFlight = .accepted) ∧
      (sw.inFlight ≠ .accepted → sw.atDisarm.inFlight = .none)))

/-- REARM taken in ACTIVE: the crossing-armed flags it names and its result (R157). -/
def Obligations.RearmSetsTheFlags : Prop :=
  ∀ (tag : UpTag) (cmd : CommandWrite) (s : State), s.takesCommand tag → s.partState = .active →
    (cmd.window = 0xFF → exec (.rearm tag cmd) s = .next (s.commit ({ s.taken tag 0x03 cmd with
      windows := Vector.ofFn fun w =>
        if (s.record w).isSome then { s.windows[w] with armed := true } else s.windows[w] }.completeCommand .ok))) ∧
    (∀ w : WindowNo, cmd.window.toNat = w.val →
      ((s.record w).isSome → exec (.rearm tag cmd) s = .next (s.commit ({ s.taken tag 0x03 cmd with
        windows := s.windows.set w { s.windows[w] with armed := true } }.completeCommand .ok))) ∧
      (s.record w = none →
        exec (.rearm tag cmd) s = .next (s.commit ((s.taken tag 0x03 cmd).completeCommand .noWindow)))) ∧
    (16 ≤ cmd.window.toNat → cmd.window.toNat ≤ 0xFE →
      exec (.rearm tag cmd) s = .next (s.commit ((s.taken tag 0x03 cmd).completeCommand .badWindow)))

/-- SWEEP taken in ACTIVE: action, then window, then eligibility; one request for each eligible window it names, dropped
where one is queued; and its result (R133, R158). -/
def Obligations.SweepCommandHandsRequests : Prop :=
  ∀ (tag : UpTag) (cmd : CommandWrite) (s : State), s.takesCommand tag → s.partState = .active →
    (cmd.action ∉ [1, 2, 3] →
      exec (.sweep tag cmd) s = .next (s.commit ((s.taken tag 0x04 cmd).completeCommand .badAction))) ∧
    (∀ a : SweepAction, SweepAction.ofCode cmd.action = some a →
      let eligible := fun w : WindowNo => ∃ r, s.inService w = some r ∧ (a = .clear ∨ r.shadowBase ≠ 0)
      let queued := fun w : WindowNo => s.sweepQueue.any fun p => p.window == w
      (16 ≤ cmd.window.toNat → cmd.window.toNat ≤ 0xFE →
        exec (.sweep tag cmd) s = .next (s.commit ((s.taken tag 0x04 cmd).completeCommand .badWindow))) ∧
      (∀ w : WindowNo, cmd.window.toNat = w.val →
        (¬eligible w →
          exec (.sweep tag cmd) s = .next (s.commit ((s.taken tag 0x04 cmd).completeCommand .notSweepable))) ∧
        (eligible w → queued w = false → s.sweepQueue.length < 16 →
          exec (.sweep tag cmd) s = .next (s.commit ({ s.taken tag 0x04 cmd with
            sweepQueue := s.sweepQueue ++ [(⟨w, a, .command⟩ : SweepRequest)] }.completeCommand .ok))) ∧
        (eligible w → queued w → ∀ r, s.record w = some r →
          exec (.sweep tag cmd) s = .next (s.commit ((((s.taken tag 0x04 cmd).setPartFlag .sweepOverrun).report
            .sweepOverrun (some w) (byteAddr r.base) 1).completeCommand .overrun)))) ∧
      (cmd.window = 0xFF → (s.sweepQueue.map (·.window)).Nodup →
        ∃ t, exec (.sweep tag cmd) s = .next t ∧ t.command.state = .done ∧ t.engine = s.engine ∧
          t.windows = s.windows ∧ t.entries = s.entries ∧ t.responses = s.responses ++ [⟨tag, .okay, none⟩] ∧
          (t.sweepQueue = s.sweepQueue ++ (List.finRange 16).filterMap fun w =>
            if s.sweepQueue.any (fun p => p.window == w) then none
            else (s.inService w).bind fun r => if a = .clear ∨ r.shadowBase ≠ 0 then some ⟨w, a, .command⟩ else none) ∧
          ((∀ w, ¬eligible w) → t.command.result = .notSweepable) ∧
          ((∃ w, eligible w ∧ queued w) → t.command.result = .overrun ∧ t.flags.part.getLsbD 7) ∧
          ((∃ w, eligible w) → (∀ w, eligible w → queued w = false) → t.command.result = .ok)))

/-- RELEASE taken in ACTIVE: a claim for a listed line, the command RUNNING; NOT_FOUND for any other (R159). -/
def Obligations.ReleaseCommandClaims : Prop :=
  ∀ (tag : UpTag) (cmd : CommandWrite) (s : State), s.takesCommand tag → s.partState = .active →
    (lineOf cmd.argument ∈ s.suspects → exec (.release tag cmd) s =
      .next (s.commit { s.taken tag 0x05 cmd with releaseClaim := some (lineOf cmd.argument) })) ∧
    (lineOf cmd.argument ∉ s.suspects → exec (.release tag cmd) s =
      .next (s.commit ((s.taken tag 0x05 cmd).completeCommand .notFound)))

/-- LOG_RESET in PASS or ACTIVE: the held count 0, OK, COMMAND_DONE, and nothing else (R160). -/
def Obligations.LogResetZeroesTheHeldCount : Prop :=
  ∀ (tag : UpTag) (cmd : CommandWrite) (s : State), s.takesCommand tag →
    exec (.logReset tag cmd) s = .next (s.commit { s.taken tag 0x06 cmd with
      logHeld := 0
      command := ⟨0x06, cmd.window, cmd.action, cmd.swTag, cmd.argument, .ok, .done, s.command.count + 1⟩
      flags := { s.flags with part := s.flags.part ||| 0x800 } })

/-- A code that names no command completes with BAD_COMMAND, and a command in a part state that does not allow it with
WRONG_STATE, and neither does anything further; LOG_RESET is allowed in both states (R154). -/
def Obligations.BadOrMistimedCommandsDoNothing : Prop :=
  ∀ (tag : UpTag) (cmd : CommandWrite) (s : State), s.takesCommand tag →
    (∀ code : Byte, code = 0 ∨ 7 ≤ code.toNat → exec (.badCommand tag code cmd) s =
      .next (s.commit ((s.taken tag code cmd).completeCommand .badCommand))) ∧
    (s.partState = .active → exec (.arm tag cmd) s =
      .next (s.commit ((s.taken tag 0x01 cmd).completeCommand .wrongState))) ∧
    (s.partState = .pass →
      exec (.disarm tag cmd) s = .next (s.commit ((s.taken tag 0x02 cmd).completeCommand .wrongState)) ∧
      exec (.rearm tag cmd) s = .next (s.commit ((s.taken tag 0x03 cmd).completeCommand .wrongState)) ∧
      exec (.sweep tag cmd) s = .next (s.commit ((s.taken tag 0x04 cmd).completeCommand .wrongState)) ∧
      exec (.release tag cmd) s = .next (s.commit ((s.taken tag 0x05 cmd).completeCommand .wrongState))) ∧
    (∃ t, exec (.logReset tag cmd) s = .next t ∧ t.command.result = .ok ∧ t.command.state = .done)

/-! ### Claims at the allocation arbiter -/

/-- The Event Input Unit's claim, taken while the Sweep Engine and the Control Unit have none that can be taken: the
pending count goes, the service position moves on, and the UPDATE opens an entry, joins one or is applied, which sets
re-dirty in WRITING if it changes the copy; for a listed line it is lost with EVENT_LOST (R74, R88, R101, R123). The unit
then claims the next input (R123; the counts of one sample stand together, notes/assumptions/7.md). While the Sweep Engine
or the Control Unit has a claim that can be taken, EVENT_CLAIM_TAKEN leaves the state as it is: the model's choice
(notes/assumptions/8.md, 2.md), which keeps the order of R89. -/
def Obligations.EventClaimBecomesAnUpdate : Prop :=
  (∀ s : State, s.sweepReady ∨ s.repairReady → exec .eventClaimTaken s = .next s) ∧
  ∀ (s : State) (n : InputNo) (b : Binding) (r : WindowRecord), s.partState = .active → s.eventClaim = some n →
    s.bindings[n] = some b → s.record b.window = some r →
    s.eventReady → s.sweepReady = false → s.repairReady = false →
    let value := s.inputs[n].pending * b.increment.toNat
    let data := writeLane r.format.width b.lane.toNat value 0
    let item : Item := .update .event data (1#8 <<< b.lane.toNat)
    let new := fun copy => r.update s.tick (1#8 <<< b.lane.toNat) data copy
    ∃ t, exec .eventClaimTaken s = .next t ∧ t.inputs[n].pending = 0 ∧ t.servicePos = n + 1 ∧
      (∀ m : InputNo, m ≠ n → t.inputs[m] = s.inputs[m]) ∧
      (s.newCounts = 0 ∨ (∀ m : InputNo, s.edgeDue m = false) →
        t.eventClaim = [n + 1, n + 2, n + 3, n].find? fun m =>
          (s.bindings[m]).isSome && decide (0 < t.inputs[m].pending)) ∧
      t.responses = s.responses ∧ t.suspects = s.suspects ∧
      (b.target ∈ s.suspects → t.entries = s.entries ∧ t.flags.part.getLsbD 5) ∧
      (b.target ∉ s.suspects →
        (∀ i, s.place b.target = .openAt i →
          t.entries = s.entries.set i (.fetchWait ⟨b.target, b.window⟩ [item]) ∧ t.flags = s.flags) ∧
        (∀ i h q, s.place b.target = .join i → s.entries[i] = .fetchWait h q →
          t.entries = s.entries.set i (.fetchWait h (q ++ [item])) ∧ t.flags = s.flags) ∧
        (∀ i h q d, s.place b.target = .join i → s.entries[i] = .fetching h q d →
          t.entries = s.entries.set i (.fetching h (q ++ [item]) d) ∧ t.flags = s.flags) ∧
        (∀ i h copy image mark, s.place b.target = .apply i → s.entries[i] = .wbWait h copy image mark →
          h.window = b.window → t.entries = s.entries.set i (.wbWait h (new copy) image mark)) ∧
        (∀ i h copy image mark dirty sent d, s.place b.target = .apply i →
          s.entries[i] = .writing h copy image mark dirty sent d → h.window = b.window →
          t.entries = s.entries.set i (.writing h (new copy) image mark (dirty || new copy != copy) sent d)))

/-- The Sweep Engine's claim for line `nextIndex` of its window. A copying sweep skips a listed line (R102) and hands its
copy at once where an entry holds one, producing the line's shadow write and clearing the copy under COPY_CLEAR (R66,
R138). A CLEAR sweep repairs and clears without a fetch where no entry holds the line (R72, R103) and clears the copy an
entry holds, and closes with the last line (R142). Else the item opens an entry with a fetch or joins one, in flight
(R137). -/
def Obligations.SweepClaimResolves : Prop :=
  ∀ (s : State) (sw : Sweep) (r : WindowRecord), s.partState = .active → s.engine = some sw →
    s.record sw.window = some r → sw.inFlight = .claimWaiting → sw.abandoning = false →
    let l := r.base + BitVec.ofNat 28 sw.nextIndex
    let item : Item := .sweep sw.action sw.sequence sw.nextIndex
    let last := r.length ≤ sw.nextIndex + 1
    let moved := if last then { sw with nextIndex := sw.nextIndex + 1, inFlight := .none, phase := .closing }
      else { sw with nextIndex := sw.nextIndex + 1 }
    let produced := fun copy => { moved with waiting := sw.waiting ++
      [⟨.line sw.nextIndex, r.shadowBase + BitVec.ofNat 28 (sw.nextIndex + 1), r.fillHeld s.boot.polynomial copy⟩] }
    let handed := fun copy => if sw.action = .copyClear then r.clearInPlace copy else copy
    let closed : State := { s with
      engine := none
      flags := { s.flags with
        sweepDone := s.flags.sweepDone ||| (1#16 <<< sw.window.val)
        part := if 0 < sw.failed then s.flags.part ||| 0x100 else s.flags.part } }
    let cleared := if last then closed else { s with engine := some moved }
    (l ∈ s.suspects → sw.action ≠ .clear → exec .sweepClaimTaken s = .next (s.commit { s with
      engine := some { moved with failed := sw.failed + 1 } })) ∧
    (l ∉ s.suspects → sw.action ≠ .clear → ∀ i, s.place l = .openAt i →
      exec .sweepClaimTaken s = .next (s.commit { s with
        engine := some { sw with inFlight := .accepted }
        entries := s.entries.set i (.fetchWait ⟨l, sw.window⟩ [item]) })) ∧
    (l ∉ s.suspects → ∀ i h q, s.place l = .join i → s.entries[i] = .fetchWait h q →
      exec .sweepClaimTaken s = .next (s.commit { s with
        engine := some { sw with inFlight := .accepted }
        entries := s.entries.set i (.fetchWait h (q ++ [item])) })) ∧
    (l ∉ s.suspects → ∀ i h q d, s.place l = .join i → s.entries[i] = .fetching h q d →
      exec .sweepClaimTaken s = .next (s.commit { s with
        engine := some { sw with inFlight := .accepted }
        entries := s.entries.set i (.fetching h (q ++ [item]) d) })) ∧
    (l ∉ s.suspects → ∀ i h copy image mark, s.place l = .apply i → s.entries[i] = .wbWait h copy image mark →
      h.window = sw.window →
      (sw.action ≠ .clear → exec .sweepClaimTaken s = .next (s.commit { s with
        engine := some (produced copy), entries := s.entries.set i (.wbWait h (handed copy) image mark) })) ∧
      (sw.action = .clear → exec .sweepClaimTaken s = .next (s.commit { cleared with
        entries := s.entries.set i (.wbWait h (r.clearInPlace copy) image mark) }))) ∧
    (l ∉ s.suspects → ∀ i h copy image mark dirty sent d, s.place l = .apply i →
      s.entries[i] = .writing h copy image mark dirty sent d → h.window = sw.window →
      (sw.action ≠ .clear → exec .sweepClaimTaken s = .next (s.commit { s with
        engine := some (produced copy)
        entries := s.entries.set i (.writing h (handed copy) image mark (dirty || handed copy != copy) sent d) })) ∧
      (sw.action = .clear → exec .sweepClaimTaken s = .next (s.commit { cleared with
        entries := s.entries.set i (.writing h (r.clearInPlace copy) image mark
          (dirty || r.clearInPlace copy != copy) sent d) }))) ∧
    (sw.action = .clear → ∀ i, s.place l = .openAt i → s.freeEntry = some i →
      exec .sweepClaimTaken s = .next (s.commit { cleared with
        suspects := s.suspects.filter (· != l)
        entries := s.entries.set i (.wbWait ⟨l, sw.window⟩ (r.clearInPlace r.clearedLine) none false) }))

/-- The Control Unit's claim, taken while the Sweep Engine has none that can be taken: a listed line leaves the list and
opens a cleared entry with the release mark, the command RUNNING; a line no longer listed completes the command with
NOT_FOUND (R72, R85, R104). While the Sweep Engine has a claim that can be taken, RELEASE_CLAIM_TAKEN leaves the state as
it is: the model's choice (notes/assumptions/8.md, 2.md), which keeps the order of R89. -/
def Obligations.ReleaseClaimRepairsTheLine : Prop :=
  (∀ s : State, s.sweepReady → exec .releaseClaimTaken s = .next s) ∧
  ∀ (s : State) (l : LineAddr), s.partState = .active → s.releaseClaim = some l →
    s.sweepReady = false →
    (l ∈ s.suspects → ∀ i w r, s.freeEntry = some i → s.windowOf l = some w → s.record w = some r →
      exec .releaseClaimTaken s = .next (s.commit { s with
        releaseClaim := none, suspects := s.suspects.filter (· != l)
        entries := s.entries.set i (.wbWait ⟨l, w⟩ r.clearedLine none true) })) ∧
    (l ∉ s.suspects → exec .releaseClaimTaken s =
      .next (s.commit ({ s with releaseClaim := none }.completeCommand .notFound)))

/-! ### The Sweep Engine -/

/-- The start of a sweep: the sequence number, the record, and the opening header IN_PROGRESS of a copying sweep; a CLEAR
sweep goes straight to LINES with its first claim (R135, R136). -/
def Obligations.SweepStartsWithItsHeader : Prop :=
  ∀ (s : State) (q : SweepRequest) (rest : List SweepRequest) (r : WindowRecord), s.partState = .active →
    s.engine = none → s.sweepQueue = q :: rest → s.record q.window = some r →
    ∃ t sw, exec .sweepStart s = .next t ∧ t.sweepQueue = rest ∧ t.engine = some sw ∧
      t.windows = s.windows.set q.window { s.windows[q.window] with sequence := s.windows[q.window].sequence + 1 } ∧
      sw.window = q.window ∧ sw.action = q.action ∧ sw.source = q.source ∧
      sw.sequence = s.windows[q.window].sequence + 1 ∧ sw.startTick = s.tick ∧ sw.nextIndex = 0 ∧ sw.copied = 0 ∧
      sw.failed = 0 ∧ sw.headerFailed = false ∧ sw.abandoning = false ∧ sw.issued = [] ∧
      (q.action = .clear → sw.phase = .lines ∧ sw.inFlight = .claimWaiting ∧ sw.waiting = []) ∧
      (q.action ≠ .clear → sw.phase = .opening ∧ sw.inFlight = .none ∧ ∃ data, sw.waiting = [⟨.opening, r.shadowBase, data⟩] ∧
        data.extractLsb' 0 112 = (0#16 ++ 0#16 ++ 0#16 ++ s.tick ++ (s.windows[q.window].sequence + 1)
          ++ BitVec.ofNat 8 q.window.val ++ ((0#1) ++ q.source.code ++ q.action.code ++ 1#2)) ∧
        (r.check = false → fieldAt data 14 16 = 0) ∧ (r.check → checkPasses s.boot.polynomial data)) ∧
      t.entries = s.entries ∧ t.responses = s.responses ∧ t.flags = s.flags

/-- The end of a copying sweep: the COMPLETE header once every shadow write is answered, and once that header is answered
the sweep-done flag, SWEEP_FAULT where a line or a header failed, and the engine IDLE (R141). -/
def Obligations.SweepClosesAfterItsHeader : Prop :=
  ∀ (s : State) (sw : Sweep) (r : WindowRecord), s.engine = some sw → sw.phase = .closing → sw.abandoning = false →
    (sw.action ≠ .clear → sw.endHeader = .notProduced → sw.waiting = [] → sw.issued = [] →
      s.record sw.window = some r →
      ∃ t data, exec .closingHeaderProduced s = .next t ∧ t = s.commit { s with
          engine := some { sw with waiting := [⟨.ending, r.shadowBase, data⟩], endHeader := .produced } } ∧
        data.extractLsb' 0 112 = (BitVec.ofNat 16 sw.failed ++ BitVec.ofNat 16 sw.copied ++ s.tick.extractLsb' 0 16
          ++ sw.startTick ++ sw.sequence ++ BitVec.ofNat 8 sw.window.val
          ++ ((0#1) ++ sw.source.code ++ sw.action.code ++ 2#2)) ∧
        (r.check = false → fieldAt data 14 16 = 0) ∧ (r.check → checkPasses s.boot.polynomial data)) ∧
    (∀ failed, sw.endHeader = .answered failed →
      exec .sweepClose s = .next (s.commit { s with
        engine := none
        flags := { s.flags with
          sweepDone := s.flags.sweepDone ||| (1#16 <<< sw.window.val)
          part := if 0 < sw.failed ∨ sw.headerFailed ∨ failed then s.flags.part ||| 0x100 else s.flags.part } }))

/-- The end of an abandoned sweep: with no item in flight and no write unanswered a copying sweep's ABANDONED header;
once that is answered, or at once for a CLEAR sweep, the SWEEP_ABANDONED incident and the engine IDLE, with no
sweep-done flag (R146; SWEEP_FAULT is left out for a CLEAR sweep by notes/assumptions/24.md). -/
def Obligations.AbandonedSweepEnds : Prop :=
  ∀ (s : State) (sw : Sweep) (r : WindowRecord), s.engine = some sw → sw.abandoning → sw.inFlight = .none →
    sw.waiting = [] → sw.issued = [] → s.record sw.window = some r →
    let ended := { s with engine := none }.report .sweepAbandoned (some sw.window) (byteAddr r.base)
      (BitVec.ofNat 32 sw.nextIndex)
    (sw.action ≠ .clear → sw.endHeader = .notProduced →
      ∃ data, exec .abandoningHeaderProduced s = .next (s.commit { s with
          engine := some { sw with waiting := [⟨.ending, r.shadowBase, data⟩], endHeader := .produced } }) ∧
        data.extractLsb' 0 112 = (BitVec.ofNat 16 sw.failed ++ BitVec.ofNat 16 sw.copied ++ s.tick.extractLsb' 0 16
          ++ sw.startTick ++ sw.sequence ++ BitVec.ofNat 8 sw.window.val
          ++ ((0#1) ++ sw.source.code ++ sw.action.code ++ 3#2))) ∧
    (sw.action ≠ .clear → ∀ failed, sw.endHeader = .answered failed →
      exec .sweepAbandoned s = .next (s.commit
        (if 0 < sw.failed ∨ sw.headerFailed ∨ failed then ended.setPartFlag .sweepFault else ended))) ∧
    (sw.action = .clear → exec .sweepAbandoned s = .next (s.commit ended))

/-! ### The Downstream Port -/

/-- A grant gives the lowest FREE tag to the waiter of the highest class in the order in force, and within a class to
the lowest entry number or setup line, fills its record, presents its request and tells the source: an entry goes to
WRITING or FETCHING, the opening header's grant takes the engine from OPENING to LINES with its first claim (R19, R21 to
R24, R79, R87, R135, R137, Table 2-2). -/
def Obligations.PortGrantFollowsTheOrder : Prop :=
  (∀ s : State,
    (s.boot.portOrder = .a → s.nextWaiter = (s.writebackWaiter <|> s.fetchWaiter <|> s.passWaiter <|> s.shadowWaiter
      <|> s.logWaiter <|> s.setupWaiter)) ∧
    (s.boot.portOrder = .b → s.nextWaiter = (s.writebackWaiter <|> s.shadowWaiter <|> s.fetchWaiter <|> s.passWaiter
      <|> s.logWaiter <|> s.setupWaiter))) ∧
  (∀ (s : State) (d : DownTag) (w : Waiter), s.bootStage ≠ .inReset → s.tags[d] = .free →
    (∀ e : DownTag, e < d → s.tags[e] ≠ .free) → s.nextWaiter = some w →
    ∃ t rec body, exec .portGrant s = .next t ∧ t.tags = s.tags.set d (.outstanding rec) ∧ rec.issueTick = s.tick ∧
      rec.expired = false ∧ rec.isWrite = isWriteBody body ∧ t.dreq = s.dreq ++ [⟨d, rec.line, body⟩] ∧
      (match w with
      | .writebackStatus => (∃ image, s.statusEntry = .wbWait image ∧
            t.statusEntry = .writing image false (s.statusCopy s.tick) d) ∧
          rec.origin = .writeback .status ∧ rec.line = s.controlLine 0 ∧ body = fullWrite (s.statusCopy s.tick)
      | .writebackCommand => (∀ image, s.statusEntry ≠ .wbWait image) ∧ (∃ image, s.commandEntry = .wbWait image ∧
            t.commandEntry = .writing image false s.command.encode d) ∧
          rec.origin = .writeback .command ∧ rec.line = s.controlLine 1 ∧ body = fullWrite s.command.encode
      | .writeback i => (∀ image, s.statusEntry ≠ .wbWait image ∧ s.commandEntry ≠ .wbWait image) ∧
          (∀ j : Fin 12, j < i → ∀ h copy image mark, s.entries[j] ≠ .wbWait h copy image mark) ∧
          rec.origin = .writeback (.general i) ∧ ∃ h copy image mark,
          s.entries[i] = .wbWait h copy image mark ∧ rec.line = h.line ∧ body = fullWrite (s.writeData h copy) ∧
          t.entries = s.entries.set i (.writing h copy image mark false (s.writeData h copy) d)
      | .fetch i => (∀ j : Fin 12, j < i → ∀ h q, s.entries[j] ≠ .fetchWait h q) ∧ rec.origin = .fetch i ∧ body = .read ∧
          ∃ h q, s.entries[i] = .fetchWait h q ∧ rec.line = h.line ∧ t.entries = s.entries.set i (.fetching h q d)
      | .pass p rest => s.passQueue = p :: rest ∧ rec.origin = .pass p.tag ∧ rec.line = p.line ∧ body = p.body ∧
          t.passQueue = rest
      | .shadow sw x rest => s.engine = some sw ∧ sw.waiting = x :: rest ∧ rec.origin = .shadow sw.window x.target ∧
          rec.line = x.line ∧ body = fullWrite x.data ∧
          (let left := { sw with waiting := rest, issued := sw.issued ++ [(d, x.target)] }
           t.engine = some (if x.target = .opening then { left with phase := .lines, inFlight := .claimWaiting }
             else left))
      | .log n i rest => s.logQueue = .record n i :: rest ∧ rec.origin = .log n ∧ t.logQueue = rest ∧
          rec.line = s.logBase + BitVec.ofNat 28 (n.toNat % 32) ∧ body = fullWrite (i.encode n)
      | .setup k => (∀ j : Fin 42, j < k → s.setup[j] ≠ .waiting) ∧ rec.origin = .setup k ∧
          rec.line = s.controlLine k.val ∧ body = .read ∧ t.setup = s.setup.set k .outstanding))

/-- Memory takes the oldest presented request, and the oldest response leaves on the URSP signals, its result coded 0
OKAY, 1 REFUSED, 2 FAULT (R1, R176). A response for a RETIRED tag frees it and one for a FREE tag does nothing (R20).
Nothing else changes. -/
def Obligations.SignalsMoveAndLateResponsesEnd : Prop :=
  ∀ s : State,
    (∀ x rest, s.dreq = x :: rest → exec .downstreamRequestTaken s = .next (s.commit { s with dreq := rest })) ∧
    (s.bootStage ≠ .inReset →
      (∀ x rest, s.responses = x :: rest →
        exec .responseSent s = .next (s.commit { s with responses := rest, ursp := some ⟨x.tag, (match x.result with
          | .okay => 0
          | .refused => 1
          | .fault => 2), x.data⟩ })) ∧
      ∀ rsp : DownResponse,
        (s.tags[rsp.tag] = .retired →
          exec (.lateResponse rsp) s = .next (s.commit { s with tags := s.tags.set rsp.tag .free })) ∧
        (s.tags[rsp.tag] = .free → exec (.lateResponse rsp) s = .next s))

/-- Memory's answer to a pass-through request is forwarded: its result and, for an OKAY READ, its data; a REFUSED or
FAULT sets MEMORY_FAULT with one incident; the tag is FREE (R16, R20, R28, R29). -/
def Obligations.PassResponseIsForwarded : Prop :=
  ∀ (d : DownTag) (data : Line) (s : State) (rec : TagRecord) (tag : UpTag), s.bootStage ≠ .inReset →
    s.tags[d] = .outstanding rec → rec.origin = .pass tag →
    let u := { s with tags := s.tags.set d .free, outstanding := s.outstanding.filter (· != tag) }
    let failed := ((s.setPartFlag .memoryFault).report .memoryFault none (byteAddr rec.line) 1)
    exec (.passResponse ⟨d, 0, data⟩) s = .next (s.commit { u with
      responses := s.responses ++ [⟨tag, .okay, if rec.isWrite then none else some data⟩] }) ∧
    (∀ code : BitVec 2, code ≠ 0 → exec (.passResponse ⟨d, code, data⟩) s = .next (s.commit { failed with
      tags := s.tags.set d .free, outstanding := s.outstanding.filter (· != tag)
      responses := s.responses ++ [⟨tag, if code = 1 then .refused else .fault, none⟩] }))

/-- The items of a queue are applied in order, each to the copy as the one before left it (R77), a SWEEP item handing
the copy and then clearing it as its action says (R66, R138, R142). A fetch answered OKAY whose data passes its check:
the queue is applied in order to the line with its held zero bytes zero, and the entry goes to WB_WAIT where the copy
differs from the fetched line, else to FREE (R75 to R78). -/
def Obligations.FetchCompletionAppliesTheQueue : Prop :=
  (∀ (s : State) (h : Hold) (x : Item) (q : List Item) (copy : Line),
    s.applyItems h [] copy = (copy, s) ∧
    s.applyItems h (x :: q) copy = (s.applyItem h x copy).2.applyItems h q (s.applyItem h x copy).1) ∧
  (∀ (s : State) (h : Hold) (n : BitVec 16) (k : Nat) (copy : Line) (r p : WindowRecord) (sw : Sweep),
    s.record h.window = some r → s.engine = some sw → s.record sw.window = some p → sw.abandoning = false →
    let moved := { sw with nextIndex := sw.nextIndex + 1, inFlight := .claimWaiting }
    let written := { moved with
      waiting := sw.waiting ++ [⟨.line k, p.shadowBase + BitVec.ofNat 28 (k + 1), p.fillHeld s.boot.polynomial copy⟩] }
    let copied : State := { s with
      engine := some (if sw.nextIndex + 1 < p.length then written
        else { written with inFlight := .none, phase := .closing }) }
    let closed : State := { s with
      engine := none
      flags := { s.flags with
        sweepDone := s.flags.sweepDone ||| (1#16 <<< sw.window.val)
        part := if 0 < sw.failed then s.flags.part ||| 0x100 else s.flags.part } }
    (sw.action = .copy → s.applyItem h (.sweep .copy n k) copy = (copy, copied)) ∧
    (sw.action = .copyClear → s.applyItem h (.sweep .copyClear n k) copy = (r.clearInPlace copy, copied)) ∧
    (sw.action = .clear → s.applyItem h (.sweep .clear n k) copy =
      (r.clearInPlace copy, if sw.nextIndex + 1 < p.length then { s with engine := some moved } else closed))) ∧
  ∀ (d : DownTag) (data : Line) (s : State) (rec : TagRecord) (i : Fin 12) (h : Hold) (q : List Item)
    (r : WindowRecord), s.bootStage ≠ .inReset → s.tags[d] = .outstanding rec → rec.origin = .fetch i →
    s.entries[i] = .fetching h q d → s.record h.window = some r →
    (r.check → checkPasses s.boot.polynomial data) →
    let applied := ({ s with tags := s.tags.set d .free }).applyItems h q (r.zeroHeld data)
    ∃ t, exec (.fetchResponse ⟨d, 0, data⟩) s = .next t ∧ t.tags = s.tags.set d .free ∧
      t.entries = s.entries.set i (if r.differs applied.1 (some data) then .wbWait h applied.1 (some data) false
        else .free) ∧
      t.suspects = s.suspects ∧ t.responses = applied.2.responses ∧ t.outstanding = applied.2.outstanding ∧
      t.flags = applied.2.flags ∧
      (∀ tag, q = [.read tag] → t.responses = s.responses ++ [⟨tag, .okay,
        some (r.fillHeld s.boot.polynomial (r.zeroHeld data))⟩] ∧ tag ∉ t.outstanding) ∧
      (∀ x lanes, q = [.update .up x lanes] → t.responses = s.responses ∧
        applied.1 = r.update s.tick lanes x (r.zeroHeld data))

/-- A fetch that fails, in memory or its line check: queued reads are answered FAULT in order, updates discarded and
counted in the one incident, the entry freed with nothing written, and a mismatching line listed if there is room
(R82, R83, R97, R98). -/
def Obligations.FetchFaultDisposesOfTheQueue : Prop :=
  ∀ (d : DownTag) (code : BitVec 2) (data : Line) (s : State) (rec : TagRecord) (i : Fin 12) (h : Hold)
    (q : List Item) (r : WindowRecord), s.bootStage ≠ .inReset → s.tags[d] = .outstanding rec →
    rec.origin = .fetch i → s.entries[i] = .fetching h q d → s.record h.window = some r →
    (code = 0 → r.check ∧ checkPasses s.boot.polynomial data = false) →
    ∃ t, exec (.fetchResponse ⟨d, code, data⟩) s = .next t ∧ t.tags = s.tags.set d .free ∧
      t.entries = s.entries.set i .free ∧ t.dreq = s.dreq ∧
      t.responses = s.responses ++ q.filterMap (fun x : Item => match x with
        | .read tag => some (⟨tag, .fault, none⟩ : UpResponse)
        | _ => none) ∧
      (∀ tag, .read tag ∈ q → tag ∉ t.outstanding) ∧
      (code ≠ 0 → t.flags.part.getLsbD 4 ∧ t.suspects = s.suspects) ∧
      (code = 0 → t.flags.part.getLsbD 1 ∧
        (s.suspects.length < 8 → t.suspects = s.suspects ++ [h.line]) ∧
        (8 ≤ s.suspects.length → t.suspects = s.suspects ∧ t.flags.part.getLsbD 2)) ∧
      (s.bootStage = .formed → s.logStyle = .wrap → s.logQueue = [] → ∃ rest, t.logQueue = .record s.logNext
        ⟨if code = 0 then .checkMismatch else .memoryFault, some h.window, s.tick, byteAddr h.line,
          BitVec.ofNat 32 (q.countP fun x : Item => match x with
            | .update .. => true
            | _ => false)⟩ :: rest)

/-- The end of a general entry's write-back: WB_WAIT again if re-dirty, else FREE; on OKAY the data sent is the image;
on a failure the image stays, MEMORY_FAULT is set and one incident reported; a repair completes its RELEASE (R80, R81,
R85). A pinned entry goes to WB_WAIT if re-dirty, else to HELD with the data sent as its image (R87), also on a failure,
and is written again where its copy has changed, as the flag of the failure changes the status line (R87, R112). -/
def Obligations.WritebackEndFreesOrRewrites : Prop :=
  (∀ (d : DownTag) (code : BitVec 2) (data : Line) (s : State) (rec : TagRecord) (i : Fin 12) (h : Hold)
    (copy : Line) (image : Option Line) (mark dirty : Bool) (sent : Line), s.bootStage ≠ .inReset →
    s.tags[d] = .outstanding rec → rec.origin = .writeback (.general i) →
    s.entries[i] = .writing h copy image mark dirty sent d →
    let u := { s with
      tags := s.tags.set d .free
      entries := s.entries.set i (if dirty then .wbWait h copy (if code = 0 then some sent else image) false else .free) }
    let reported := if code = 0 then u
      else (u.setPartFlag .memoryFault).report .memoryFault (some h.window) (byteAddr h.line) 3
    exec (.writebackResponse ⟨d, code, data⟩) s = .next (s.commit
      (if mark then reported.completeCommand (if code = 0 then .ok else .memoryFault) else reported))) ∧
  (∀ (d : DownTag) (code : BitVec 2) (data : Line) (s : State) (rec : TagRecord) (image : Option Line) (dirty : Bool)
      (sent : Line), s.bootStage ≠ .inReset → s.tags[d] = .outstanding rec →
    (rec.origin = .writeback .status → s.statusEntry = .writing image dirty sent d →
      ∃ t, exec (.writebackResponse ⟨d, code, data⟩) s = .next t ∧ t.statusWritten = true ∧ t.entries = s.entries ∧
        (dirty → t.statusEntry = .wbWait (if code = 0 then some sent else image)) ∧
        (dirty = false → code = 0 → statusPart sent = statusPart (s.statusCopy 0) → t.statusEntry = .held sent) ∧
        (dirty = false → code ≠ 0 → s.bootStage = .formed → s.logStyle = .off →
          statusPart sent = statusPart (s.statusCopy 0) →
          t.statusEntry = if s.flags.part.getLsbD 4 then .held sent else .wbWait (some sent)) ∧
        (code = 0 → t.flags = s.flags) ∧ (code ≠ 0 → t.flags.part.getLsbD 4)) ∧
    (rec.origin = .writeback .command → s.commandEntry = .writing image dirty sent d →
      ∃ t, exec (.writebackResponse ⟨d, code, data⟩) s = .next t ∧ t.commandWritten = true ∧ t.entries = s.entries ∧
        (dirty → t.commandEntry = .wbWait (if code = 0 then some sent else image)) ∧
        (dirty = false → sent = s.command.encode → t.commandEntry = .held sent) ∧
        (code = 0 → t.flags = s.flags) ∧ (code ≠ 0 → t.flags.part.getLsbD 4)))

/-- The answers to shadow writes, log writes and setup reads: a sweep's counts and the header failed mark, and the
answer to its last header (R140, R141), LOG_DROPPED with no incident
(R164), and the line or its failure for the Control Unit (R29). -/
def Obligations.ShadowLogAndSetupAnswers : Prop :=
  ∀ (d : DownTag) (code : BitVec 2) (data : Line) (s : State) (rec : TagRecord), s.bootStage ≠ .inReset →
    s.tags[d] = .outstanding rec →
    (∀ w index sw, rec.origin = .shadow w (.line index) → s.engine = some sw → (d, .line index) ∈ sw.issued →
      ∃ t, exec (.shadowResponse ⟨d, code, data⟩) s = .next t ∧ t.tags = s.tags.set d .free ∧
        t.engine = some { sw with
          issued := sw.issued.filter fun p => p.1 != d
          copied := if code = 0 then sw.copied + 1 else sw.copied
          failed := if code = 0 then sw.failed else sw.failed + 1 } ∧
        (code = 0 → t.flags = s.flags) ∧ (code ≠ 0 → t.flags.part.getLsbD 4)) ∧
    (∀ w sw, rec.origin = .shadow w .opening → s.engine = some sw → (d, .opening) ∈ sw.issued →
      ∃ t, exec (.shadowResponse ⟨d, code, data⟩) s = .next t ∧ t.tags = s.tags.set d .free ∧
        t.engine = some { sw with
          issued := sw.issued.filter fun p => p.1 != d
          headerFailed := sw.headerFailed || code != 0 } ∧
        (code = 0 → t.flags = s.flags) ∧ (code ≠ 0 → t.flags.part.getLsbD 4)) ∧
    (∀ w sw, rec.origin = .shadow w .ending → s.engine = some sw → (d, .ending) ∈ sw.issued →
      ∃ t, exec (.shadowResponse ⟨d, code, data⟩) s = .next t ∧ t.tags = s.tags.set d .free ∧
        t.engine = some { sw with
          issued := sw.issued.filter fun p => p.1 != d
          endHeader := .answered (code != 0) } ∧
        (code = 0 → t.flags = s.flags) ∧ (code ≠ 0 → t.flags.part.getLsbD 4)) ∧
    (∀ n, rec.origin = .log n →
      ∃ t, exec (.logWriteResponse ⟨d, code, data⟩) s = .next t ∧ t.tags = s.tags.set d .free ∧
        t.logQueue = s.logQueue ∧ t.logNext = s.logNext ∧ t.logHeld = s.logHeld ∧
        (code = 0 → t.flags = s.flags) ∧
        (code ≠ 0 → t.flags = { s.flags with part := s.flags.part ||| 0x10 ||| 0x400 })) ∧
    (∀ k, rec.origin = .setup k →
      ∃ t, exec (.setupResponse ⟨d, code, data⟩) s = .next t ∧ t.tags = s.tags.set d .free ∧
        t.setup = s.setup.set k (if code = 0 then .taken data else .failed) ∧
        (code = 0 → t.flags = s.flags) ∧ (code ≠ 0 → t.flags.part.getLsbD 4))

/-! ### Shared operations -/

/-- The tests of R163, in order. -/
def Obligations.IncidentsAcceptedInOrder : Prop :=
  ∀ (s : State) (kind : IncidentKind) (w : Option WindowNo) (a : ByteAddr) (detail : BitVec 32), s.bootStage = .formed →
    let t := s.report kind w a detail
    (s.logStyle = .off → t = s) ∧
    (s.logStyle = .keepFirst → s.logHeld = 32 →
      t = { s with flags := { s.flags with part := s.flags.part ||| 0x200 } }) ∧
    (s.logStyle = .wrap ∨ s.logStyle = .keepFirst ∧ s.logHeld < 32 →
      (s.logQueue.length = 4 → t = { s with flags := { s.flags with part := s.flags.part ||| 0x400 } }) ∧
      (s.logQueue.length < 4 → t = { s with
        logQueue := s.logQueue ++ [.record s.logNext ⟨kind, w, s.tick, a, detail⟩]
        logNext := s.logNext + 1
        logHeld := if s.logHeld < 32 then s.logHeld + 1 else s.logHeld }))

/-- The check value of R94, bit by bit; a line the bridge fills for a check-on window carries it little-endian in bytes
14 and 15 and passes its check (R96, R97). -/
def Obligations.CheckValueIsTheCrc : Prop :=
  ∀ (p : Polynomial) (r : WindowRecord) (l : Line),
    (checkValue p l = (List.range 112).foldl (fun (reg : BitVec 16) k =>
      if reg.getLsbD 15 != l.getLsbD (8 * (k / 8) + (7 - k % 8)) then
        (reg <<< 1) ^^^ (match p with
          | .a => 0x8005#16
          | .b => 0x1021#16)
      else reg <<< 1) 0xFFFF#16) ∧
    (r.check → checkPasses p (r.fillHeld p l) ∧
      byteAt (r.fillHeld p l) 14 = (checkValue p (r.fillHeld p l)).extractLsb' 0 8 ∧
      byteAt (r.fillHeld p l) 15 = (checkValue p (r.fillHeld p l)).extractLsb' 8 8)

/-- What an UPDATE leaves in each lane: the saturated sum (R52), the saturated weighted sum (R55), the sample and the
saturated difference (R60); every other lane keeps its pattern (R62). And the crossings an item counts: its watched
values tested in ascending lane order, each crossing in EACH mode and the lowest in FIRST mode while the crossing-armed
flag is set, which it clears; a crossing counted sets the window's alert flag and reports one incident (R68, R113,
R114). -/
def Obligations.UpdatesComputeEachLane : Prop :=
  (∀ (s : State) (h : Hold) (r : WindowRecord) (o : UpdateOrigin) (data copy : Line) (lanes : BitVec 8),
    s.record h.window = some r →
    let new := r.update s.tick lanes data copy
    let enabled := (List.range r.format.lanes).filter fun i => lanes.getLsbD i
    let watched := match r.function with
      | .accumulate | .weighted => enabled
      | .extreme => [2]
      | .difference => (enabled.filter fun i => i % 2 == 0).map (· + 1)
    let value : Line → Nat → Int := fun l i =>
      if r.function = .difference then ((readLane true r.format.width i l).natAbs : Int)
      else readLane r.format.signed r.format.width i l
    let threshold : Int := if r.function = .difference ∨ r.format = .s16 then r.threshold.toInt else r.threshold.toNat
    let crossing := watched.filter fun i => decide (value copy i < threshold ∧ threshold ≤ value new i)
    let count : State → Nat → State := fun u i =>
      { u with flags := { u.flags with window := u.flags.window ||| (1#16 <<< h.window.val) } }.report .crossing
        (some h.window) (h.line ++ BitVec.ofNat 4 i) (BitVec.ofInt 32 (value new i))
    let disarmed := { s with windows := s.windows.set h.window { s.windows[h.window] with armed := false } }
    s.applyItem h (.update .cmd data lanes) copy = (copy, s) ∧
    (o ≠ .cmd →
      (r.crossingMode = .off → s.applyItem h (.update o data lanes) copy = (new, s)) ∧
      (r.crossingMode = .each → s.applyItem h (.update o data lanes) copy = (new, crossing.foldl count s)) ∧
      (r.crossingMode = .first → s.windows[h.window].armed = false ∨ crossing = [] →
        s.applyItem h (.update o data lanes) copy = (new, s)) ∧
      (r.crossingMode = .first → s.windows[h.window].armed = true → ∀ i rest, crossing = i :: rest →
        s.applyItem h (.update o data lanes) copy = (new, count disarmed i)))) ∧
  ∀ (r : WindowRecord) (tick : BitVec 32) (lanes : BitVec 8) (data copy : Line) (i : Nat), i < r.format.lanes →
    let w := r.format.width
    let sg := r.format.signed
    let new := r.update tick lanes data copy
    (r.function = .accumulate →
      (lanes.getLsbD i → readLane sg w i new = saturate sg w (readLane sg w i copy + readLane sg w i data)) ∧
      (lanes.getLsbD i = false → laneBits w i new = laneBits w i copy) ∧
      (sg = false → readLane sg w i copy ≤ readLane sg w i new)) ∧
    (r.function = .weighted →
      (lanes.getLsbD i →
        readLane sg w i new = saturate sg w (readLane sg w i copy + r.weight i * readLane sg w i data)) ∧
      (lanes.getLsbD i = false → laneBits w i new = laneBits w i copy)) ∧
    (r.function = .difference → i % 2 = 0 →
      (lanes.getLsbD i → laneBits w i new = laneBits w i data ∧
        readLane true w (i + 1) new = saturate true w (readLane sg w i data - readLane sg w i copy)) ∧
      (lanes.getLsbD i = false → laneBits w i new = laneBits w i copy ∧
        laneBits w (i + 1) new = laneBits w (i + 1) copy))

/-- What an UPDATE of samples leaves in an EXTREME line: the least sample below the stored minimum, its lane (the lowest
among equals) and the tick (R58), likewise the greatest, and the saturated count of samples (R59). -/
def Obligations.ExtremeKeepsTheLeastAndGreatest : Prop :=
  ∀ (r : WindowRecord) (tick : BitVec 32) (lanes : BitVec 8) (data copy : Line),
    r.function = .extreme → r.format ≠ .u32 →
    let sg := r.format.signed
    let sample := fun i => readLane sg 16 i data
    let enabled := fun i => i < 8 ∧ lanes.getLsbD i = true
    let new := r.update tick lanes data copy
    (∀ i, enabled i → sample i < readLane sg 16 0 copy → (∀ j, enabled j → sample i ≤ sample j) →
      (∀ j < i, enabled j → sample i < sample j) →
      readLane sg 16 0 new = sample i ∧ readLane false 16 1 new = i ∧ laneBits 16 5 new = tick.extractLsb' 0 16) ∧
    ((∀ i, enabled i → readLane sg 16 0 copy ≤ sample i) →
      laneBits 16 0 new = laneBits 16 0 copy ∧ laneBits 16 1 new = laneBits 16 1 copy ∧
      laneBits 16 5 new = laneBits 16 5 copy) ∧
    (∀ i, enabled i → readLane sg 16 2 copy < sample i → (∀ j, enabled j → sample j ≤ sample i) →
      (∀ j < i, enabled j → sample j < sample i) →
      readLane sg 16 2 new = sample i ∧ readLane false 16 3 new = i ∧ laneBits 16 6 new = tick.extractLsb' 0 16) ∧
    ((∀ i, enabled i → sample i ≤ readLane sg 16 2 copy) →
      laneBits 16 2 new = laneBits 16 2 copy ∧ laneBits 16 3 new = laneBits 16 3 copy ∧
      laneBits 16 6 new = laneBits 16 6 copy) ∧
    readLane false 16 4 new =
      min 65535 (readLane false 16 4 copy + ((List.range 8).countP fun i => lanes.getLsbD i)) ∧
    laneBits 16 7 new = laneBits 16 7 copy

/-! ### Rules over all commands -/

/-- The part state changes only as Table 12-1 allows and by the commands it names: a reset alone enters BOOT, and ARM,
DISARM, BOOT_END, LOADING_COMPLETE and DRAINING_END make the other changes (R167; that the step ending BOOT, LOADING or
DRAINING also examines a held head is notes/assumptions/11.md). These change only at the commands named, a reset apart:
the tick counter at a tick increment (R169), SETUP_SEL at the start of BOOT (R148), the boot settings but protect in
BOOT (R149, R151), the window records at the end of LOADING and of DRAINING (R43, R46, R47), the bindings and the chord
setting there too (R130), the was-active flag there too (R171); and a flag is cleared only where a READ of the status
line can be answered (R111). -/
def Obligations.TablesChangeOnlyWhereStated : Prop :=
  ∀ (c : Instr) (s t : State), exec c s = .next t →
    (isReset c = true → t.partState = .boot) ∧
    (isReset c = false →
      PartMove c s t ∧
      ((∀ levels, c ≠ .tickIncrement levels) → t.tick = s.tick) ∧
      ((∀ sel, c ≠ .resetRelease sel) → t.setupSel = s.setupSel) ∧
      (c ≠ .bootSettingsApplied → { t.boot with protect := s.boot.protect } = s.boot ∧ t.logStyle = s.logStyle ∧
        t.logBase = s.logBase) ∧
      (c ≠ .loadingComplete → c ≠ .drainingEnd → (∀ w : WindowNo, t.record w = s.record w) ∧
        t.bindings = s.bindings ∧ t.chord = s.chord ∧ t.wasActive = s.wasActive) ∧
      (examinesUpstream c = false →
        t.flags.window &&& s.flags.window = s.flags.window ∧
        t.flags.sweepDone &&& s.flags.sweepDone = s.flags.sweepDone ∧
        t.flags.part &&& s.flags.part = s.flags.part))

/-! ### Invariants of every step -/

/-- Every step keeps the capacities of Table 0-3. -/
def Obligations.StepsKeepCapacities : Prop :=
  ∀ s t : State, s.WithinCapacities → step s = .next t → t.WithinCapacities

/-- Every step keeps each line with one holder at most, listed lines with none, and the Open Line Table and the Suspect
Line List empty outside ACTIVE and DRAINING (R71, R99, R107). -/
def Obligations.StepsKeepLinesHeldOnce : Prop :=
  ∀ s t : State, s.LinesHeldOnce → step s = .next t → t.LinesHeldOnce

/-- Every step keeps the pinned lines in HELD in agreement with their images (R87) and ALERT_N as its rule judges it: not
asserted in BOOT, and outside BOOT asserted exactly when a masked flag is set (R117). -/
def Obligations.StepsKeepPinnedLinesAndAlert : Prop :=
  ∀ s t : State, s.PinnedAgree → s.AlertRight → step s = .next t → t.PinnedAgree ∧ t.AlertRight ∧
    (t.alert = true ↔ t.partState ≠ .boot ∧ (t.flags.window &&& fieldAt t.live.masks 0 16 ≠ 0
      ∨ t.flags.sweepDone &&& fieldAt t.live.masks 2 16 ≠ 0
      ∨ t.flags.part &&& (fieldAt t.live.masks 4 16).setWidth 13 ≠ 0))

/-- The invariants hold in the state after reset. -/
def Obligations.ResetMeetsTheInvariants : Prop :=
  State.reset.WithinCapacities ∧ State.reset.LinesHeldOnce ∧ State.reset.PinnedAgree ∧ State.reset.AlertRight

end
end

