-- ==== Sys2Proof/Laws/State.lean ====
section
/-!
SUPPORT. One lemma for each plain update of the state: the fields it leaves as they are. Each is a conjunction that simp
takes apart, so no later proof unfolds a record update.
-/

namespace Sys2Proof.Machine

variable (s : State)

@[simp] theorem setPartFlag_keeps (f : PartFlag) :
    (s.setPartFlag f).pending = s.pending ∧ (s.setPartFlag f).bootStage = s.bootStage ∧
    (s.setPartFlag f).resetKind = s.resetKind ∧ (s.setPartFlag f).setupSel = s.setupSel ∧
    (s.setPartFlag f).evLevels = s.evLevels ∧ (s.setPartFlag f).ursp = s.ursp ∧ (s.setPartFlag f).alert = s.alert ∧
    (s.setPartFlag f).tick = s.tick ∧ (s.setPartFlag f).cycles = s.cycles ∧
    (s.setPartFlag f).partState = s.partState ∧ (s.setPartFlag f).wasActive = s.wasActive ∧
    (s.setPartFlag f).fellToDefault = s.fellToDefault ∧ (s.setPartFlag f).boot = s.boot ∧
    (s.setPartFlag f).live = s.live ∧ (s.setPartFlag f).setup = s.setup ∧
    (s.setPartFlag f).releaseClaim = s.releaseClaim ∧ (s.setPartFlag f).statusEntry = s.statusEntry ∧
    (s.setPartFlag f).statusWritten = s.statusWritten ∧ (s.setPartFlag f).command = s.command ∧
    (s.setPartFlag f).commandEntry = s.commandEntry ∧ (s.setPartFlag f).commandWritten = s.commandWritten ∧
    (s.setPartFlag f).outstanding = s.outstanding ∧ (s.setPartFlag f).head = s.head ∧
    (s.setPartFlag f).responses = s.responses ∧ (s.setPartFlag f).tags = s.tags ∧
    (s.setPartFlag f).passQueue = s.passQueue ∧ (s.setPartFlag f).dreq = s.dreq ∧
    (s.setPartFlag f).windows = s.windows ∧ (s.setPartFlag f).entries = s.entries ∧
    (s.setPartFlag f).suspects = s.suspects ∧ (s.setPartFlag f).sweepQueue = s.sweepQueue ∧
    (s.setPartFlag f).engine = s.engine ∧ (s.setPartFlag f).intervals = s.intervals ∧
    (s.setPartFlag f).intervalDue = s.intervalDue ∧ (s.setPartFlag f).bindings = s.bindings ∧
    (s.setPartFlag f).chord = s.chord ∧ (s.setPartFlag f).levels = s.levels ∧ (s.setPartFlag f).inputs = s.inputs ∧
    (s.setPartFlag f).chordTimer = s.chordTimer ∧ (s.setPartFlag f).chordFired = s.chordFired ∧
    (s.setPartFlag f).servicePos = s.servicePos ∧ (s.setPartFlag f).eventClaim = s.eventClaim ∧
    (s.setPartFlag f).newCounts = s.newCounts ∧ (s.setPartFlag f).logStyle = s.logStyle ∧
    (s.setPartFlag f).logBase = s.logBase ∧ (s.setPartFlag f).logNext = s.logNext ∧
    (s.setPartFlag f).logHeld = s.logHeld ∧ (s.setPartFlag f).logQueue = s.logQueue := by
  simp only [State.setPartFlag, and_self]

@[simp] theorem setWindowFlag_keeps (w : WindowNo) :
    (s.setWindowFlag w).pending = s.pending ∧ (s.setWindowFlag w).bootStage = s.bootStage ∧
    (s.setWindowFlag w).resetKind = s.resetKind ∧ (s.setWindowFlag w).setupSel = s.setupSel ∧
    (s.setWindowFlag w).evLevels = s.evLevels ∧ (s.setWindowFlag w).ursp = s.ursp ∧
    (s.setWindowFlag w).alert = s.alert ∧ (s.setWindowFlag w).tick = s.tick ∧
    (s.setWindowFlag w).cycles = s.cycles ∧ (s.setWindowFlag w).partState = s.partState ∧
    (s.setWindowFlag w).wasActive = s.wasActive ∧ (s.setWindowFlag w).fellToDefault = s.fellToDefault ∧
    (s.setWindowFlag w).boot = s.boot ∧ (s.setWindowFlag w).live = s.live ∧ (s.setWindowFlag w).setup = s.setup ∧
    (s.setWindowFlag w).releaseClaim = s.releaseClaim ∧ (s.setWindowFlag w).statusEntry = s.statusEntry ∧
    (s.setWindowFlag w).statusWritten = s.statusWritten ∧ (s.setWindowFlag w).command = s.command ∧
    (s.setWindowFlag w).commandEntry = s.commandEntry ∧ (s.setWindowFlag w).commandWritten = s.commandWritten ∧
    (s.setWindowFlag w).outstanding = s.outstanding ∧ (s.setWindowFlag w).head = s.head ∧
    (s.setWindowFlag w).responses = s.responses ∧ (s.setWindowFlag w).tags = s.tags ∧
    (s.setWindowFlag w).passQueue = s.passQueue ∧ (s.setWindowFlag w).dreq = s.dreq ∧
    (s.setWindowFlag w).windows = s.windows ∧ (s.setWindowFlag w).entries = s.entries ∧
    (s.setWindowFlag w).suspects = s.suspects ∧ (s.setWindowFlag w).sweepQueue = s.sweepQueue ∧
    (s.setWindowFlag w).engine = s.engine ∧ (s.setWindowFlag w).intervals = s.intervals ∧
    (s.setWindowFlag w).intervalDue = s.intervalDue ∧ (s.setWindowFlag w).bindings = s.bindings ∧
    (s.setWindowFlag w).chord = s.chord ∧ (s.setWindowFlag w).levels = s.levels ∧
    (s.setWindowFlag w).inputs = s.inputs ∧ (s.setWindowFlag w).chordTimer = s.chordTimer ∧
    (s.setWindowFlag w).chordFired = s.chordFired ∧ (s.setWindowFlag w).servicePos = s.servicePos ∧
    (s.setWindowFlag w).eventClaim = s.eventClaim ∧ (s.setWindowFlag w).newCounts = s.newCounts ∧
    (s.setWindowFlag w).logStyle = s.logStyle ∧ (s.setWindowFlag w).logBase = s.logBase ∧
    (s.setWindowFlag w).logNext = s.logNext ∧ (s.setWindowFlag w).logHeld = s.logHeld ∧
    (s.setWindowFlag w).logQueue = s.logQueue := by
  simp only [State.setWindowFlag, and_self]

@[simp] theorem setSweepDone_keeps (w : WindowNo) :
    (s.setSweepDone w).pending = s.pending ∧ (s.setSweepDone w).bootStage = s.bootStage ∧
    (s.setSweepDone w).resetKind = s.resetKind ∧ (s.setSweepDone w).setupSel = s.setupSel ∧
    (s.setSweepDone w).evLevels = s.evLevels ∧ (s.setSweepDone w).ursp = s.ursp ∧
    (s.setSweepDone w).alert = s.alert ∧ (s.setSweepDone w).tick = s.tick ∧ (s.setSweepDone w).cycles = s.cycles ∧
    (s.setSweepDone w).partState = s.partState ∧ (s.setSweepDone w).wasActive = s.wasActive ∧
    (s.setSweepDone w).fellToDefault = s.fellToDefault ∧ (s.setSweepDone w).boot = s.boot ∧
    (s.setSweepDone w).live = s.live ∧ (s.setSweepDone w).setup = s.setup ∧
    (s.setSweepDone w).releaseClaim = s.releaseClaim ∧ (s.setSweepDone w).statusEntry = s.statusEntry ∧
    (s.setSweepDone w).statusWritten = s.statusWritten ∧ (s.setSweepDone w).command = s.command ∧
    (s.setSweepDone w).commandEntry = s.commandEntry ∧ (s.setSweepDone w).commandWritten = s.commandWritten ∧
    (s.setSweepDone w).outstanding = s.outstanding ∧ (s.setSweepDone w).head = s.head ∧
    (s.setSweepDone w).responses = s.responses ∧ (s.setSweepDone w).tags = s.tags ∧
    (s.setSweepDone w).passQueue = s.passQueue ∧ (s.setSweepDone w).dreq = s.dreq ∧
    (s.setSweepDone w).windows = s.windows ∧ (s.setSweepDone w).entries = s.entries ∧
    (s.setSweepDone w).suspects = s.suspects ∧ (s.setSweepDone w).sweepQueue = s.sweepQueue ∧
    (s.setSweepDone w).engine = s.engine ∧ (s.setSweepDone w).intervals = s.intervals ∧
    (s.setSweepDone w).intervalDue = s.intervalDue ∧ (s.setSweepDone w).bindings = s.bindings ∧
    (s.setSweepDone w).chord = s.chord ∧ (s.setSweepDone w).levels = s.levels ∧
    (s.setSweepDone w).inputs = s.inputs ∧ (s.setSweepDone w).chordTimer = s.chordTimer ∧
    (s.setSweepDone w).chordFired = s.chordFired ∧ (s.setSweepDone w).servicePos = s.servicePos ∧
    (s.setSweepDone w).eventClaim = s.eventClaim ∧ (s.setSweepDone w).newCounts = s.newCounts ∧
    (s.setSweepDone w).logStyle = s.logStyle ∧ (s.setSweepDone w).logBase = s.logBase ∧
    (s.setSweepDone w).logNext = s.logNext ∧ (s.setSweepDone w).logHeld = s.logHeld ∧
    (s.setSweepDone w).logQueue = s.logQueue := by
  simp only [State.setSweepDone, and_self]

@[simp] theorem clearFlags_keeps :
    (s.clearFlags).pending = s.pending ∧ (s.clearFlags).bootStage = s.bootStage ∧
    (s.clearFlags).resetKind = s.resetKind ∧ (s.clearFlags).setupSel = s.setupSel ∧
    (s.clearFlags).evLevels = s.evLevels ∧ (s.clearFlags).ursp = s.ursp ∧ (s.clearFlags).alert = s.alert ∧
    (s.clearFlags).tick = s.tick ∧ (s.clearFlags).cycles = s.cycles ∧ (s.clearFlags).partState = s.partState ∧
    (s.clearFlags).wasActive = s.wasActive ∧ (s.clearFlags).fellToDefault = s.fellToDefault ∧
    (s.clearFlags).boot = s.boot ∧ (s.clearFlags).live = s.live ∧ (s.clearFlags).setup = s.setup ∧
    (s.clearFlags).releaseClaim = s.releaseClaim ∧ (s.clearFlags).statusEntry = s.statusEntry ∧
    (s.clearFlags).statusWritten = s.statusWritten ∧ (s.clearFlags).command = s.command ∧
    (s.clearFlags).commandEntry = s.commandEntry ∧ (s.clearFlags).commandWritten = s.commandWritten ∧
    (s.clearFlags).outstanding = s.outstanding ∧ (s.clearFlags).head = s.head ∧
    (s.clearFlags).responses = s.responses ∧ (s.clearFlags).tags = s.tags ∧ (s.clearFlags).passQueue = s.passQueue ∧
    (s.clearFlags).dreq = s.dreq ∧ (s.clearFlags).windows = s.windows ∧ (s.clearFlags).entries = s.entries ∧
    (s.clearFlags).suspects = s.suspects ∧ (s.clearFlags).sweepQueue = s.sweepQueue ∧
    (s.clearFlags).engine = s.engine ∧ (s.clearFlags).intervals = s.intervals ∧
    (s.clearFlags).intervalDue = s.intervalDue ∧ (s.clearFlags).bindings = s.bindings ∧
    (s.clearFlags).chord = s.chord ∧ (s.clearFlags).levels = s.levels ∧ (s.clearFlags).inputs = s.inputs ∧
    (s.clearFlags).chordTimer = s.chordTimer ∧ (s.clearFlags).chordFired = s.chordFired ∧
    (s.clearFlags).servicePos = s.servicePos ∧ (s.clearFlags).eventClaim = s.eventClaim ∧
    (s.clearFlags).newCounts = s.newCounts ∧ (s.clearFlags).logStyle = s.logStyle ∧
    (s.clearFlags).logBase = s.logBase ∧ (s.clearFlags).logNext = s.logNext ∧ (s.clearFlags).logHeld = s.logHeld ∧
    (s.clearFlags).logQueue = s.logQueue := by
  simp only [State.clearFlags, and_self]

@[simp] theorem respond_keeps (tag : UpTag) (r : Result) (d : Option Line) :
    (s.respond tag r d).pending = s.pending ∧ (s.respond tag r d).bootStage = s.bootStage ∧
    (s.respond tag r d).resetKind = s.resetKind ∧ (s.respond tag r d).setupSel = s.setupSel ∧
    (s.respond tag r d).evLevels = s.evLevels ∧ (s.respond tag r d).ursp = s.ursp ∧
    (s.respond tag r d).alert = s.alert ∧ (s.respond tag r d).tick = s.tick ∧
    (s.respond tag r d).cycles = s.cycles ∧ (s.respond tag r d).partState = s.partState ∧
    (s.respond tag r d).wasActive = s.wasActive ∧ (s.respond tag r d).fellToDefault = s.fellToDefault ∧
    (s.respond tag r d).boot = s.boot ∧ (s.respond tag r d).live = s.live ∧ (s.respond tag r d).setup = s.setup ∧
    (s.respond tag r d).releaseClaim = s.releaseClaim ∧ (s.respond tag r d).flags = s.flags ∧
    (s.respond tag r d).statusEntry = s.statusEntry ∧ (s.respond tag r d).statusWritten = s.statusWritten ∧
    (s.respond tag r d).command = s.command ∧ (s.respond tag r d).commandEntry = s.commandEntry ∧
    (s.respond tag r d).commandWritten = s.commandWritten ∧ (s.respond tag r d).outstanding = s.outstanding ∧
    (s.respond tag r d).head = s.head ∧ (s.respond tag r d).tags = s.tags ∧
    (s.respond tag r d).passQueue = s.passQueue ∧ (s.respond tag r d).dreq = s.dreq ∧
    (s.respond tag r d).windows = s.windows ∧ (s.respond tag r d).entries = s.entries ∧
    (s.respond tag r d).suspects = s.suspects ∧ (s.respond tag r d).sweepQueue = s.sweepQueue ∧
    (s.respond tag r d).engine = s.engine ∧ (s.respond tag r d).intervals = s.intervals ∧
    (s.respond tag r d).intervalDue = s.intervalDue ∧ (s.respond tag r d).bindings = s.bindings ∧
    (s.respond tag r d).chord = s.chord ∧ (s.respond tag r d).levels = s.levels ∧
    (s.respond tag r d).inputs = s.inputs ∧ (s.respond tag r d).chordTimer = s.chordTimer ∧
    (s.respond tag r d).chordFired = s.chordFired ∧ (s.respond tag r d).servicePos = s.servicePos ∧
    (s.respond tag r d).eventClaim = s.eventClaim ∧ (s.respond tag r d).newCounts = s.newCounts ∧
    (s.respond tag r d).logStyle = s.logStyle ∧ (s.respond tag r d).logBase = s.logBase ∧
    (s.respond tag r d).logNext = s.logNext ∧ (s.respond tag r d).logHeld = s.logHeld ∧
    (s.respond tag r d).logQueue = s.logQueue := by
  simp only [State.respond, and_self]

@[simp] theorem answer_keeps (tag : UpTag) (r : Result) (d : Option Line) :
    (s.answer tag r d).pending = s.pending ∧ (s.answer tag r d).bootStage = s.bootStage ∧
    (s.answer tag r d).resetKind = s.resetKind ∧ (s.answer tag r d).setupSel = s.setupSel ∧
    (s.answer tag r d).evLevels = s.evLevels ∧ (s.answer tag r d).ursp = s.ursp ∧
    (s.answer tag r d).alert = s.alert ∧ (s.answer tag r d).tick = s.tick ∧ (s.answer tag r d).cycles = s.cycles ∧
    (s.answer tag r d).partState = s.partState ∧ (s.answer tag r d).wasActive = s.wasActive ∧
    (s.answer tag r d).fellToDefault = s.fellToDefault ∧ (s.answer tag r d).boot = s.boot ∧
    (s.answer tag r d).live = s.live ∧ (s.answer tag r d).setup = s.setup ∧
    (s.answer tag r d).releaseClaim = s.releaseClaim ∧ (s.answer tag r d).flags = s.flags ∧
    (s.answer tag r d).statusEntry = s.statusEntry ∧ (s.answer tag r d).statusWritten = s.statusWritten ∧
    (s.answer tag r d).command = s.command ∧ (s.answer tag r d).commandEntry = s.commandEntry ∧
    (s.answer tag r d).commandWritten = s.commandWritten ∧ (s.answer tag r d).head = s.head ∧
    (s.answer tag r d).tags = s.tags ∧ (s.answer tag r d).passQueue = s.passQueue ∧
    (s.answer tag r d).dreq = s.dreq ∧ (s.answer tag r d).windows = s.windows ∧
    (s.answer tag r d).entries = s.entries ∧ (s.answer tag r d).suspects = s.suspects ∧
    (s.answer tag r d).sweepQueue = s.sweepQueue ∧ (s.answer tag r d).engine = s.engine ∧
    (s.answer tag r d).intervals = s.intervals ∧ (s.answer tag r d).intervalDue = s.intervalDue ∧
    (s.answer tag r d).bindings = s.bindings ∧ (s.answer tag r d).chord = s.chord ∧
    (s.answer tag r d).levels = s.levels ∧ (s.answer tag r d).inputs = s.inputs ∧
    (s.answer tag r d).chordTimer = s.chordTimer ∧ (s.answer tag r d).chordFired = s.chordFired ∧
    (s.answer tag r d).servicePos = s.servicePos ∧ (s.answer tag r d).eventClaim = s.eventClaim ∧
    (s.answer tag r d).newCounts = s.newCounts ∧ (s.answer tag r d).logStyle = s.logStyle ∧
    (s.answer tag r d).logBase = s.logBase ∧ (s.answer tag r d).logNext = s.logNext ∧
    (s.answer tag r d).logHeld = s.logHeld ∧ (s.answer tag r d).logQueue = s.logQueue := by
  simp only [State.answer, State.respond, and_self]

@[simp] theorem addOutstanding_keeps (tag : UpTag) :
    (s.addOutstanding tag).pending = s.pending ∧ (s.addOutstanding tag).bootStage = s.bootStage ∧
    (s.addOutstanding tag).resetKind = s.resetKind ∧ (s.addOutstanding tag).setupSel = s.setupSel ∧
    (s.addOutstanding tag).evLevels = s.evLevels ∧ (s.addOutstanding tag).ursp = s.ursp ∧
    (s.addOutstanding tag).alert = s.alert ∧ (s.addOutstanding tag).tick = s.tick ∧
    (s.addOutstanding tag).cycles = s.cycles ∧ (s.addOutstanding tag).partState = s.partState ∧
    (s.addOutstanding tag).wasActive = s.wasActive ∧ (s.addOutstanding tag).fellToDefault = s.fellToDefault ∧
    (s.addOutstanding tag).boot = s.boot ∧ (s.addOutstanding tag).live = s.live ∧
    (s.addOutstanding tag).setup = s.setup ∧ (s.addOutstanding tag).releaseClaim = s.releaseClaim ∧
    (s.addOutstanding tag).flags = s.flags ∧ (s.addOutstanding tag).statusEntry = s.statusEntry ∧
    (s.addOutstanding tag).statusWritten = s.statusWritten ∧ (s.addOutstanding tag).command = s.command ∧
    (s.addOutstanding tag).commandEntry = s.commandEntry ∧
    (s.addOutstanding tag).commandWritten = s.commandWritten ∧ (s.addOutstanding tag).head = s.head ∧
    (s.addOutstanding tag).responses = s.responses ∧ (s.addOutstanding tag).tags = s.tags ∧
    (s.addOutstanding tag).passQueue = s.passQueue ∧ (s.addOutstanding tag).dreq = s.dreq ∧
    (s.addOutstanding tag).windows = s.windows ∧ (s.addOutstanding tag).entries = s.entries ∧
    (s.addOutstanding tag).suspects = s.suspects ∧ (s.addOutstanding tag).sweepQueue = s.sweepQueue ∧
    (s.addOutstanding tag).engine = s.engine ∧ (s.addOutstanding tag).intervals = s.intervals ∧
    (s.addOutstanding tag).intervalDue = s.intervalDue ∧ (s.addOutstanding tag).bindings = s.bindings ∧
    (s.addOutstanding tag).chord = s.chord ∧ (s.addOutstanding tag).levels = s.levels ∧
    (s.addOutstanding tag).inputs = s.inputs ∧ (s.addOutstanding tag).chordTimer = s.chordTimer ∧
    (s.addOutstanding tag).chordFired = s.chordFired ∧ (s.addOutstanding tag).servicePos = s.servicePos ∧
    (s.addOutstanding tag).eventClaim = s.eventClaim ∧ (s.addOutstanding tag).newCounts = s.newCounts ∧
    (s.addOutstanding tag).logStyle = s.logStyle ∧ (s.addOutstanding tag).logBase = s.logBase ∧
    (s.addOutstanding tag).logNext = s.logNext ∧ (s.addOutstanding tag).logHeld = s.logHeld ∧
    (s.addOutstanding tag).logQueue = s.logQueue := by
  simp only [State.addOutstanding, and_self]

@[simp] theorem leave_keeps :
    (s.leave).pending = s.pending ∧ (s.leave).bootStage = s.bootStage ∧ (s.leave).resetKind = s.resetKind ∧
    (s.leave).setupSel = s.setupSel ∧ (s.leave).evLevels = s.evLevels ∧ (s.leave).ursp = s.ursp ∧
    (s.leave).alert = s.alert ∧ (s.leave).tick = s.tick ∧ (s.leave).cycles = s.cycles ∧
    (s.leave).partState = s.partState ∧ (s.leave).wasActive = s.wasActive ∧
    (s.leave).fellToDefault = s.fellToDefault ∧ (s.leave).boot = s.boot ∧ (s.leave).live = s.live ∧
    (s.leave).setup = s.setup ∧ (s.leave).releaseClaim = s.releaseClaim ∧ (s.leave).flags = s.flags ∧
    (s.leave).statusEntry = s.statusEntry ∧ (s.leave).statusWritten = s.statusWritten ∧
    (s.leave).command = s.command ∧ (s.leave).commandEntry = s.commandEntry ∧
    (s.leave).commandWritten = s.commandWritten ∧ (s.leave).outstanding = s.outstanding ∧
    (s.leave).responses = s.responses ∧ (s.leave).tags = s.tags ∧ (s.leave).passQueue = s.passQueue ∧
    (s.leave).dreq = s.dreq ∧ (s.leave).windows = s.windows ∧ (s.leave).entries = s.entries ∧
    (s.leave).suspects = s.suspects ∧ (s.leave).sweepQueue = s.sweepQueue ∧ (s.leave).engine = s.engine ∧
    (s.leave).intervals = s.intervals ∧ (s.leave).intervalDue = s.intervalDue ∧ (s.leave).bindings = s.bindings ∧
    (s.leave).chord = s.chord ∧ (s.leave).levels = s.levels ∧ (s.leave).inputs = s.inputs ∧
    (s.leave).chordTimer = s.chordTimer ∧ (s.leave).chordFired = s.chordFired ∧
    (s.leave).servicePos = s.servicePos ∧ (s.leave).eventClaim = s.eventClaim ∧ (s.leave).newCounts = s.newCounts ∧
    (s.leave).logStyle = s.logStyle ∧ (s.leave).logBase = s.logBase ∧ (s.leave).logNext = s.logNext ∧
    (s.leave).logHeld = s.logHeld ∧ (s.leave).logQueue = s.logQueue := by
  simp only [State.leave, and_self]

@[simp] theorem answerHead_keeps (q : UpRequest) (r : Result) (d : Option Line) :
    (s.answerHead q r d).pending = s.pending ∧ (s.answerHead q r d).bootStage = s.bootStage ∧
    (s.answerHead q r d).resetKind = s.resetKind ∧ (s.answerHead q r d).setupSel = s.setupSel ∧
    (s.answerHead q r d).evLevels = s.evLevels ∧ (s.answerHead q r d).ursp = s.ursp ∧
    (s.answerHead q r d).alert = s.alert ∧ (s.answerHead q r d).tick = s.tick ∧
    (s.answerHead q r d).cycles = s.cycles ∧ (s.answerHead q r d).partState = s.partState ∧
    (s.answerHead q r d).wasActive = s.wasActive ∧ (s.answerHead q r d).fellToDefault = s.fellToDefault ∧
    (s.answerHead q r d).boot = s.boot ∧ (s.answerHead q r d).live = s.live ∧ (s.answerHead q r d).setup = s.setup ∧
    (s.answerHead q r d).releaseClaim = s.releaseClaim ∧ (s.answerHead q r d).flags = s.flags ∧
    (s.answerHead q r d).statusEntry = s.statusEntry ∧ (s.answerHead q r d).statusWritten = s.statusWritten ∧
    (s.answerHead q r d).command = s.command ∧ (s.answerHead q r d).commandEntry = s.commandEntry ∧
    (s.answerHead q r d).commandWritten = s.commandWritten ∧ (s.answerHead q r d).outstanding = s.outstanding ∧
    (s.answerHead q r d).tags = s.tags ∧ (s.answerHead q r d).passQueue = s.passQueue ∧
    (s.answerHead q r d).dreq = s.dreq ∧ (s.answerHead q r d).windows = s.windows ∧
    (s.answerHead q r d).entries = s.entries ∧ (s.answerHead q r d).suspects = s.suspects ∧
    (s.answerHead q r d).sweepQueue = s.sweepQueue ∧ (s.answerHead q r d).engine = s.engine ∧
    (s.answerHead q r d).intervals = s.intervals ∧ (s.answerHead q r d).intervalDue = s.intervalDue ∧
    (s.answerHead q r d).bindings = s.bindings ∧ (s.answerHead q r d).chord = s.chord ∧
    (s.answerHead q r d).levels = s.levels ∧ (s.answerHead q r d).inputs = s.inputs ∧
    (s.answerHead q r d).chordTimer = s.chordTimer ∧ (s.answerHead q r d).chordFired = s.chordFired ∧
    (s.answerHead q r d).servicePos = s.servicePos ∧ (s.answerHead q r d).eventClaim = s.eventClaim ∧
    (s.answerHead q r d).newCounts = s.newCounts ∧ (s.answerHead q r d).logStyle = s.logStyle ∧
    (s.answerHead q r d).logBase = s.logBase ∧ (s.answerHead q r d).logNext = s.logNext ∧
    (s.answerHead q r d).logHeld = s.logHeld ∧ (s.answerHead q r d).logQueue = s.logQueue := by
  simp only [State.answerHead, State.respond, State.leave, and_self]

@[simp] theorem acceptPass_keeps (q : UpRequest) :
    (s.acceptPass q).pending = s.pending ∧ (s.acceptPass q).bootStage = s.bootStage ∧
    (s.acceptPass q).resetKind = s.resetKind ∧ (s.acceptPass q).setupSel = s.setupSel ∧
    (s.acceptPass q).evLevels = s.evLevels ∧ (s.acceptPass q).ursp = s.ursp ∧ (s.acceptPass q).alert = s.alert ∧
    (s.acceptPass q).tick = s.tick ∧ (s.acceptPass q).cycles = s.cycles ∧ (s.acceptPass q).partState = s.partState ∧
    (s.acceptPass q).wasActive = s.wasActive ∧ (s.acceptPass q).fellToDefault = s.fellToDefault ∧
    (s.acceptPass q).boot = s.boot ∧ (s.acceptPass q).live = s.live ∧ (s.acceptPass q).setup = s.setup ∧
    (s.acceptPass q).releaseClaim = s.releaseClaim ∧ (s.acceptPass q).flags = s.flags ∧
    (s.acceptPass q).statusEntry = s.statusEntry ∧ (s.acceptPass q).statusWritten = s.statusWritten ∧
    (s.acceptPass q).command = s.command ∧ (s.acceptPass q).commandEntry = s.commandEntry ∧
    (s.acceptPass q).commandWritten = s.commandWritten ∧ (s.acceptPass q).responses = s.responses ∧
    (s.acceptPass q).tags = s.tags ∧ (s.acceptPass q).dreq = s.dreq ∧ (s.acceptPass q).windows = s.windows ∧
    (s.acceptPass q).entries = s.entries ∧ (s.acceptPass q).suspects = s.suspects ∧
    (s.acceptPass q).sweepQueue = s.sweepQueue ∧ (s.acceptPass q).engine = s.engine ∧
    (s.acceptPass q).intervals = s.intervals ∧ (s.acceptPass q).intervalDue = s.intervalDue ∧
    (s.acceptPass q).bindings = s.bindings ∧ (s.acceptPass q).chord = s.chord ∧ (s.acceptPass q).levels = s.levels ∧
    (s.acceptPass q).inputs = s.inputs ∧ (s.acceptPass q).chordTimer = s.chordTimer ∧
    (s.acceptPass q).chordFired = s.chordFired ∧ (s.acceptPass q).servicePos = s.servicePos ∧
    (s.acceptPass q).eventClaim = s.eventClaim ∧ (s.acceptPass q).newCounts = s.newCounts ∧
    (s.acceptPass q).logStyle = s.logStyle ∧ (s.acceptPass q).logBase = s.logBase ∧
    (s.acceptPass q).logNext = s.logNext ∧ (s.acceptPass q).logHeld = s.logHeld ∧
    (s.acceptPass q).logQueue = s.logQueue := by
  simp only [State.acceptPass, State.addOutstanding, State.leave, and_self]

@[simp] theorem setWindow_keeps (w : WindowNo) (x : WindowSlot) :
    (s.setWindow w x).pending = s.pending ∧ (s.setWindow w x).bootStage = s.bootStage ∧
    (s.setWindow w x).resetKind = s.resetKind ∧ (s.setWindow w x).setupSel = s.setupSel ∧
    (s.setWindow w x).evLevels = s.evLevels ∧ (s.setWindow w x).ursp = s.ursp ∧ (s.setWindow w x).alert = s.alert ∧
    (s.setWindow w x).tick = s.tick ∧ (s.setWindow w x).cycles = s.cycles ∧
    (s.setWindow w x).partState = s.partState ∧ (s.setWindow w x).wasActive = s.wasActive ∧
    (s.setWindow w x).fellToDefault = s.fellToDefault ∧ (s.setWindow w x).boot = s.boot ∧
    (s.setWindow w x).live = s.live ∧ (s.setWindow w x).setup = s.setup ∧
    (s.setWindow w x).releaseClaim = s.releaseClaim ∧ (s.setWindow w x).flags = s.flags ∧
    (s.setWindow w x).statusEntry = s.statusEntry ∧ (s.setWindow w x).statusWritten = s.statusWritten ∧
    (s.setWindow w x).command = s.command ∧ (s.setWindow w x).commandEntry = s.commandEntry ∧
    (s.setWindow w x).commandWritten = s.commandWritten ∧ (s.setWindow w x).outstanding = s.outstanding ∧
    (s.setWindow w x).head = s.head ∧ (s.setWindow w x).responses = s.responses ∧ (s.setWindow w x).tags = s.tags ∧
    (s.setWindow w x).passQueue = s.passQueue ∧ (s.setWindow w x).dreq = s.dreq ∧
    (s.setWindow w x).entries = s.entries ∧ (s.setWindow w x).suspects = s.suspects ∧
    (s.setWindow w x).sweepQueue = s.sweepQueue ∧ (s.setWindow w x).engine = s.engine ∧
    (s.setWindow w x).intervals = s.intervals ∧ (s.setWindow w x).intervalDue = s.intervalDue ∧
    (s.setWindow w x).bindings = s.bindings ∧ (s.setWindow w x).chord = s.chord ∧
    (s.setWindow w x).levels = s.levels ∧ (s.setWindow w x).inputs = s.inputs ∧
    (s.setWindow w x).chordTimer = s.chordTimer ∧ (s.setWindow w x).chordFired = s.chordFired ∧
    (s.setWindow w x).servicePos = s.servicePos ∧ (s.setWindow w x).eventClaim = s.eventClaim ∧
    (s.setWindow w x).newCounts = s.newCounts ∧ (s.setWindow w x).logStyle = s.logStyle ∧
    (s.setWindow w x).logBase = s.logBase ∧ (s.setWindow w x).logNext = s.logNext ∧
    (s.setWindow w x).logHeld = s.logHeld ∧ (s.setWindow w x).logQueue = s.logQueue := by
  simp only [State.setWindow, and_self]

@[simp] theorem setEntry_keeps (i : Fin 12) (e : Entry) :
    (s.setEntry i e).pending = s.pending ∧ (s.setEntry i e).bootStage = s.bootStage ∧
    (s.setEntry i e).resetKind = s.resetKind ∧ (s.setEntry i e).setupSel = s.setupSel ∧
    (s.setEntry i e).evLevels = s.evLevels ∧ (s.setEntry i e).ursp = s.ursp ∧ (s.setEntry i e).alert = s.alert ∧
    (s.setEntry i e).tick = s.tick ∧ (s.setEntry i e).cycles = s.cycles ∧ (s.setEntry i e).partState = s.partState ∧
    (s.setEntry i e).wasActive = s.wasActive ∧ (s.setEntry i e).fellToDefault = s.fellToDefault ∧
    (s.setEntry i e).boot = s.boot ∧ (s.setEntry i e).live = s.live ∧ (s.setEntry i e).setup = s.setup ∧
    (s.setEntry i e).releaseClaim = s.releaseClaim ∧ (s.setEntry i e).flags = s.flags ∧
    (s.setEntry i e).statusEntry = s.statusEntry ∧ (s.setEntry i e).statusWritten = s.statusWritten ∧
    (s.setEntry i e).command = s.command ∧ (s.setEntry i e).commandEntry = s.commandEntry ∧
    (s.setEntry i e).commandWritten = s.commandWritten ∧ (s.setEntry i e).outstanding = s.outstanding ∧
    (s.setEntry i e).head = s.head ∧ (s.setEntry i e).responses = s.responses ∧ (s.setEntry i e).tags = s.tags ∧
    (s.setEntry i e).passQueue = s.passQueue ∧ (s.setEntry i e).dreq = s.dreq ∧
    (s.setEntry i e).windows = s.windows ∧ (s.setEntry i e).suspects = s.suspects ∧
    (s.setEntry i e).sweepQueue = s.sweepQueue ∧ (s.setEntry i e).engine = s.engine ∧
    (s.setEntry i e).intervals = s.intervals ∧ (s.setEntry i e).intervalDue = s.intervalDue ∧
    (s.setEntry i e).bindings = s.bindings ∧ (s.setEntry i e).chord = s.chord ∧ (s.setEntry i e).levels = s.levels ∧
    (s.setEntry i e).inputs = s.inputs ∧ (s.setEntry i e).chordTimer = s.chordTimer ∧
    (s.setEntry i e).chordFired = s.chordFired ∧ (s.setEntry i e).servicePos = s.servicePos ∧
    (s.setEntry i e).eventClaim = s.eventClaim ∧ (s.setEntry i e).newCounts = s.newCounts ∧
    (s.setEntry i e).logStyle = s.logStyle ∧ (s.setEntry i e).logBase = s.logBase ∧
    (s.setEntry i e).logNext = s.logNext ∧ (s.setEntry i e).logHeld = s.logHeld ∧
    (s.setEntry i e).logQueue = s.logQueue := by
  simp only [State.setEntry, and_self]

@[simp] theorem delist_keeps (l : LineAddr) :
    (s.delist l).pending = s.pending ∧ (s.delist l).bootStage = s.bootStage ∧ (s.delist l).resetKind = s.resetKind ∧
    (s.delist l).setupSel = s.setupSel ∧ (s.delist l).evLevels = s.evLevels ∧ (s.delist l).ursp = s.ursp ∧
    (s.delist l).alert = s.alert ∧ (s.delist l).tick = s.tick ∧ (s.delist l).cycles = s.cycles ∧
    (s.delist l).partState = s.partState ∧ (s.delist l).wasActive = s.wasActive ∧
    (s.delist l).fellToDefault = s.fellToDefault ∧ (s.delist l).boot = s.boot ∧ (s.delist l).live = s.live ∧
    (s.delist l).setup = s.setup ∧ (s.delist l).releaseClaim = s.releaseClaim ∧ (s.delist l).flags = s.flags ∧
    (s.delist l).statusEntry = s.statusEntry ∧ (s.delist l).statusWritten = s.statusWritten ∧
    (s.delist l).command = s.command ∧ (s.delist l).commandEntry = s.commandEntry ∧
    (s.delist l).commandWritten = s.commandWritten ∧ (s.delist l).outstanding = s.outstanding ∧
    (s.delist l).head = s.head ∧ (s.delist l).responses = s.responses ∧ (s.delist l).tags = s.tags ∧
    (s.delist l).passQueue = s.passQueue ∧ (s.delist l).dreq = s.dreq ∧ (s.delist l).windows = s.windows ∧
    (s.delist l).entries = s.entries ∧ (s.delist l).sweepQueue = s.sweepQueue ∧ (s.delist l).engine = s.engine ∧
    (s.delist l).intervals = s.intervals ∧ (s.delist l).intervalDue = s.intervalDue ∧
    (s.delist l).bindings = s.bindings ∧ (s.delist l).chord = s.chord ∧ (s.delist l).levels = s.levels ∧
    (s.delist l).inputs = s.inputs ∧ (s.delist l).chordTimer = s.chordTimer ∧
    (s.delist l).chordFired = s.chordFired ∧ (s.delist l).servicePos = s.servicePos ∧
    (s.delist l).eventClaim = s.eventClaim ∧ (s.delist l).newCounts = s.newCounts ∧
    (s.delist l).logStyle = s.logStyle ∧ (s.delist l).logBase = s.logBase ∧ (s.delist l).logNext = s.logNext ∧
    (s.delist l).logHeld = s.logHeld ∧ (s.delist l).logQueue = s.logQueue := by
  simp only [State.delist, and_self]

@[simp] theorem setTag_keeps (t : DownTag) (x : TagState) :
    (s.setTag t x).pending = s.pending ∧ (s.setTag t x).bootStage = s.bootStage ∧
    (s.setTag t x).resetKind = s.resetKind ∧ (s.setTag t x).setupSel = s.setupSel ∧
    (s.setTag t x).evLevels = s.evLevels ∧ (s.setTag t x).ursp = s.ursp ∧ (s.setTag t x).alert = s.alert ∧
    (s.setTag t x).tick = s.tick ∧ (s.setTag t x).cycles = s.cycles ∧ (s.setTag t x).partState = s.partState ∧
    (s.setTag t x).wasActive = s.wasActive ∧ (s.setTag t x).fellToDefault = s.fellToDefault ∧
    (s.setTag t x).boot = s.boot ∧ (s.setTag t x).live = s.live ∧ (s.setTag t x).setup = s.setup ∧
    (s.setTag t x).releaseClaim = s.releaseClaim ∧ (s.setTag t x).flags = s.flags ∧
    (s.setTag t x).statusEntry = s.statusEntry ∧ (s.setTag t x).statusWritten = s.statusWritten ∧
    (s.setTag t x).command = s.command ∧ (s.setTag t x).commandEntry = s.commandEntry ∧
    (s.setTag t x).commandWritten = s.commandWritten ∧ (s.setTag t x).outstanding = s.outstanding ∧
    (s.setTag t x).head = s.head ∧ (s.setTag t x).responses = s.responses ∧ (s.setTag t x).passQueue = s.passQueue ∧
    (s.setTag t x).dreq = s.dreq ∧ (s.setTag t x).windows = s.windows ∧ (s.setTag t x).entries = s.entries ∧
    (s.setTag t x).suspects = s.suspects ∧ (s.setTag t x).sweepQueue = s.sweepQueue ∧
    (s.setTag t x).engine = s.engine ∧ (s.setTag t x).intervals = s.intervals ∧
    (s.setTag t x).intervalDue = s.intervalDue ∧ (s.setTag t x).bindings = s.bindings ∧
    (s.setTag t x).chord = s.chord ∧ (s.setTag t x).levels = s.levels ∧ (s.setTag t x).inputs = s.inputs ∧
    (s.setTag t x).chordTimer = s.chordTimer ∧ (s.setTag t x).chordFired = s.chordFired ∧
    (s.setTag t x).servicePos = s.servicePos ∧ (s.setTag t x).eventClaim = s.eventClaim ∧
    (s.setTag t x).newCounts = s.newCounts ∧ (s.setTag t x).logStyle = s.logStyle ∧
    (s.setTag t x).logBase = s.logBase ∧ (s.setTag t x).logNext = s.logNext ∧ (s.setTag t x).logHeld = s.logHeld ∧
    (s.setTag t x).logQueue = s.logQueue := by
  simp only [State.setTag, and_self]

@[simp] theorem issue_keeps (t : DownTag) (o : Origin) (l : LineAddr) (b : ReqBody) :
    (s.issue t o l b).pending = s.pending ∧ (s.issue t o l b).bootStage = s.bootStage ∧
    (s.issue t o l b).resetKind = s.resetKind ∧ (s.issue t o l b).setupSel = s.setupSel ∧
    (s.issue t o l b).evLevels = s.evLevels ∧ (s.issue t o l b).ursp = s.ursp ∧ (s.issue t o l b).alert = s.alert ∧
    (s.issue t o l b).tick = s.tick ∧ (s.issue t o l b).cycles = s.cycles ∧
    (s.issue t o l b).partState = s.partState ∧ (s.issue t o l b).wasActive = s.wasActive ∧
    (s.issue t o l b).fellToDefault = s.fellToDefault ∧ (s.issue t o l b).boot = s.boot ∧
    (s.issue t o l b).live = s.live ∧ (s.issue t o l b).setup = s.setup ∧
    (s.issue t o l b).releaseClaim = s.releaseClaim ∧ (s.issue t o l b).flags = s.flags ∧
    (s.issue t o l b).statusEntry = s.statusEntry ∧ (s.issue t o l b).statusWritten = s.statusWritten ∧
    (s.issue t o l b).command = s.command ∧ (s.issue t o l b).commandEntry = s.commandEntry ∧
    (s.issue t o l b).commandWritten = s.commandWritten ∧ (s.issue t o l b).outstanding = s.outstanding ∧
    (s.issue t o l b).head = s.head ∧ (s.issue t o l b).responses = s.responses ∧
    (s.issue t o l b).passQueue = s.passQueue ∧ (s.issue t o l b).windows = s.windows ∧
    (s.issue t o l b).entries = s.entries ∧ (s.issue t o l b).suspects = s.suspects ∧
    (s.issue t o l b).sweepQueue = s.sweepQueue ∧ (s.issue t o l b).engine = s.engine ∧
    (s.issue t o l b).intervals = s.intervals ∧ (s.issue t o l b).intervalDue = s.intervalDue ∧
    (s.issue t o l b).bindings = s.bindings ∧ (s.issue t o l b).chord = s.chord ∧
    (s.issue t o l b).levels = s.levels ∧ (s.issue t o l b).inputs = s.inputs ∧
    (s.issue t o l b).chordTimer = s.chordTimer ∧ (s.issue t o l b).chordFired = s.chordFired ∧
    (s.issue t o l b).servicePos = s.servicePos ∧ (s.issue t o l b).eventClaim = s.eventClaim ∧
    (s.issue t o l b).newCounts = s.newCounts ∧ (s.issue t o l b).logStyle = s.logStyle ∧
    (s.issue t o l b).logBase = s.logBase ∧ (s.issue t o l b).logNext = s.logNext ∧
    (s.issue t o l b).logHeld = s.logHeld ∧ (s.issue t o l b).logQueue = s.logQueue := by
  simp only [State.issue, and_self]

@[simp] theorem completeCommand_keeps (r : CommandResult) :
    (s.completeCommand r).pending = s.pending ∧ (s.completeCommand r).bootStage = s.bootStage ∧
    (s.completeCommand r).resetKind = s.resetKind ∧ (s.completeCommand r).setupSel = s.setupSel ∧
    (s.completeCommand r).evLevels = s.evLevels ∧ (s.completeCommand r).ursp = s.ursp ∧
    (s.completeCommand r).alert = s.alert ∧ (s.completeCommand r).tick = s.tick ∧
    (s.completeCommand r).cycles = s.cycles ∧ (s.completeCommand r).partState = s.partState ∧
    (s.completeCommand r).wasActive = s.wasActive ∧ (s.completeCommand r).fellToDefault = s.fellToDefault ∧
    (s.completeCommand r).boot = s.boot ∧ (s.completeCommand r).live = s.live ∧
    (s.completeCommand r).setup = s.setup ∧ (s.completeCommand r).releaseClaim = s.releaseClaim ∧
    (s.completeCommand r).statusEntry = s.statusEntry ∧ (s.completeCommand r).statusWritten = s.statusWritten ∧
    (s.completeCommand r).commandEntry = s.commandEntry ∧ (s.completeCommand r).commandWritten = s.commandWritten ∧
    (s.completeCommand r).outstanding = s.outstanding ∧ (s.completeCommand r).head = s.head ∧
    (s.completeCommand r).responses = s.responses ∧ (s.completeCommand r).tags = s.tags ∧
    (s.completeCommand r).passQueue = s.passQueue ∧ (s.completeCommand r).dreq = s.dreq ∧
    (s.completeCommand r).windows = s.windows ∧ (s.completeCommand r).entries = s.entries ∧
    (s.completeCommand r).suspects = s.suspects ∧ (s.completeCommand r).sweepQueue = s.sweepQueue ∧
    (s.completeCommand r).engine = s.engine ∧ (s.completeCommand r).intervals = s.intervals ∧
    (s.completeCommand r).intervalDue = s.intervalDue ∧ (s.completeCommand r).bindings = s.bindings ∧
    (s.completeCommand r).chord = s.chord ∧ (s.completeCommand r).levels = s.levels ∧
    (s.completeCommand r).inputs = s.inputs ∧ (s.completeCommand r).chordTimer = s.chordTimer ∧
    (s.completeCommand r).chordFired = s.chordFired ∧ (s.completeCommand r).servicePos = s.servicePos ∧
    (s.completeCommand r).eventClaim = s.eventClaim ∧ (s.completeCommand r).newCounts = s.newCounts ∧
    (s.completeCommand r).logStyle = s.logStyle ∧ (s.completeCommand r).logBase = s.logBase ∧
    (s.completeCommand r).logNext = s.logNext ∧ (s.completeCommand r).logHeld = s.logHeld ∧
    (s.completeCommand r).logQueue = s.logQueue := by
  simp only [State.completeCommand, State.setPartFlag, and_self]

@[simp] theorem setInput_keeps (n : InputNo) (i : InputState) :
    (s.setInput n i).pending = s.pending ∧ (s.setInput n i).bootStage = s.bootStage ∧
    (s.setInput n i).resetKind = s.resetKind ∧ (s.setInput n i).setupSel = s.setupSel ∧
    (s.setInput n i).evLevels = s.evLevels ∧ (s.setInput n i).ursp = s.ursp ∧ (s.setInput n i).alert = s.alert ∧
    (s.setInput n i).tick = s.tick ∧ (s.setInput n i).cycles = s.cycles ∧ (s.setInput n i).partState = s.partState ∧
    (s.setInput n i).wasActive = s.wasActive ∧ (s.setInput n i).fellToDefault = s.fellToDefault ∧
    (s.setInput n i).boot = s.boot ∧ (s.setInput n i).live = s.live ∧ (s.setInput n i).setup = s.setup ∧
    (s.setInput n i).releaseClaim = s.releaseClaim ∧ (s.setInput n i).flags = s.flags ∧
    (s.setInput n i).statusEntry = s.statusEntry ∧ (s.setInput n i).statusWritten = s.statusWritten ∧
    (s.setInput n i).command = s.command ∧ (s.setInput n i).commandEntry = s.commandEntry ∧
    (s.setInput n i).commandWritten = s.commandWritten ∧ (s.setInput n i).outstanding = s.outstanding ∧
    (s.setInput n i).head = s.head ∧ (s.setInput n i).responses = s.responses ∧ (s.setInput n i).tags = s.tags ∧
    (s.setInput n i).passQueue = s.passQueue ∧ (s.setInput n i).dreq = s.dreq ∧
    (s.setInput n i).windows = s.windows ∧ (s.setInput n i).entries = s.entries ∧
    (s.setInput n i).suspects = s.suspects ∧ (s.setInput n i).sweepQueue = s.sweepQueue ∧
    (s.setInput n i).engine = s.engine ∧ (s.setInput n i).intervals = s.intervals ∧
    (s.setInput n i).intervalDue = s.intervalDue ∧ (s.setInput n i).bindings = s.bindings ∧
    (s.setInput n i).chord = s.chord ∧ (s.setInput n i).levels = s.levels ∧
    (s.setInput n i).chordTimer = s.chordTimer ∧ (s.setInput n i).chordFired = s.chordFired ∧
    (s.setInput n i).servicePos = s.servicePos ∧ (s.setInput n i).eventClaim = s.eventClaim ∧
    (s.setInput n i).newCounts = s.newCounts ∧ (s.setInput n i).logStyle = s.logStyle ∧
    (s.setInput n i).logBase = s.logBase ∧ (s.setInput n i).logNext = s.logNext ∧
    (s.setInput n i).logHeld = s.logHeld ∧ (s.setInput n i).logQueue = s.logQueue := by
  simp only [State.setInput, and_self]

@[simp] theorem eventServed_keeps (n : InputNo) :
    (s.eventServed n).pending = s.pending ∧ (s.eventServed n).bootStage = s.bootStage ∧
    (s.eventServed n).resetKind = s.resetKind ∧ (s.eventServed n).setupSel = s.setupSel ∧
    (s.eventServed n).evLevels = s.evLevels ∧ (s.eventServed n).ursp = s.ursp ∧ (s.eventServed n).alert = s.alert ∧
    (s.eventServed n).tick = s.tick ∧ (s.eventServed n).cycles = s.cycles ∧
    (s.eventServed n).partState = s.partState ∧ (s.eventServed n).wasActive = s.wasActive ∧
    (s.eventServed n).fellToDefault = s.fellToDefault ∧ (s.eventServed n).boot = s.boot ∧
    (s.eventServed n).live = s.live ∧ (s.eventServed n).setup = s.setup ∧
    (s.eventServed n).releaseClaim = s.releaseClaim ∧ (s.eventServed n).flags = s.flags ∧
    (s.eventServed n).statusEntry = s.statusEntry ∧ (s.eventServed n).statusWritten = s.statusWritten ∧
    (s.eventServed n).command = s.command ∧ (s.eventServed n).commandEntry = s.commandEntry ∧
    (s.eventServed n).commandWritten = s.commandWritten ∧ (s.eventServed n).outstanding = s.outstanding ∧
    (s.eventServed n).head = s.head ∧ (s.eventServed n).responses = s.responses ∧ (s.eventServed n).tags = s.tags ∧
    (s.eventServed n).passQueue = s.passQueue ∧ (s.eventServed n).dreq = s.dreq ∧
    (s.eventServed n).windows = s.windows ∧ (s.eventServed n).entries = s.entries ∧
    (s.eventServed n).suspects = s.suspects ∧ (s.eventServed n).sweepQueue = s.sweepQueue ∧
    (s.eventServed n).engine = s.engine ∧ (s.eventServed n).intervals = s.intervals ∧
    (s.eventServed n).intervalDue = s.intervalDue ∧ (s.eventServed n).bindings = s.bindings ∧
    (s.eventServed n).chord = s.chord ∧ (s.eventServed n).levels = s.levels ∧
    (s.eventServed n).chordTimer = s.chordTimer ∧ (s.eventServed n).chordFired = s.chordFired ∧
    (s.eventServed n).newCounts = s.newCounts ∧ (s.eventServed n).logStyle = s.logStyle ∧
    (s.eventServed n).logBase = s.logBase ∧ (s.eventServed n).logNext = s.logNext ∧
    (s.eventServed n).logHeld = s.logHeld ∧ (s.eventServed n).logQueue = s.logQueue := by
  simp only [State.eventServed, State.setInput, and_self]

@[simp] theorem resetInputs_keeps :
    (s.resetInputs).pending = s.pending ∧ (s.resetInputs).bootStage = s.bootStage ∧
    (s.resetInputs).resetKind = s.resetKind ∧ (s.resetInputs).setupSel = s.setupSel ∧
    (s.resetInputs).evLevels = s.evLevels ∧ (s.resetInputs).ursp = s.ursp ∧ (s.resetInputs).alert = s.alert ∧
    (s.resetInputs).tick = s.tick ∧ (s.resetInputs).cycles = s.cycles ∧ (s.resetInputs).partState = s.partState ∧
    (s.resetInputs).wasActive = s.wasActive ∧ (s.resetInputs).fellToDefault = s.fellToDefault ∧
    (s.resetInputs).boot = s.boot ∧ (s.resetInputs).live = s.live ∧ (s.resetInputs).setup = s.setup ∧
    (s.resetInputs).releaseClaim = s.releaseClaim ∧ (s.resetInputs).flags = s.flags ∧
    (s.resetInputs).statusEntry = s.statusEntry ∧ (s.resetInputs).statusWritten = s.statusWritten ∧
    (s.resetInputs).command = s.command ∧ (s.resetInputs).commandEntry = s.commandEntry ∧
    (s.resetInputs).commandWritten = s.commandWritten ∧ (s.resetInputs).outstanding = s.outstanding ∧
    (s.resetInputs).head = s.head ∧ (s.resetInputs).responses = s.responses ∧ (s.resetInputs).tags = s.tags ∧
    (s.resetInputs).passQueue = s.passQueue ∧ (s.resetInputs).dreq = s.dreq ∧ (s.resetInputs).windows = s.windows ∧
    (s.resetInputs).entries = s.entries ∧ (s.resetInputs).suspects = s.suspects ∧
    (s.resetInputs).sweepQueue = s.sweepQueue ∧ (s.resetInputs).engine = s.engine ∧
    (s.resetInputs).intervals = s.intervals ∧ (s.resetInputs).intervalDue = s.intervalDue ∧
    (s.resetInputs).bindings = s.bindings ∧ (s.resetInputs).chord = s.chord ∧
    (s.resetInputs).logStyle = s.logStyle ∧ (s.resetInputs).logBase = s.logBase ∧
    (s.resetInputs).logNext = s.logNext ∧ (s.resetInputs).logHeld = s.logHeld ∧
    (s.resetInputs).logQueue = s.logQueue := by
  simp only [State.resetInputs, and_self]

@[simp] theorem armingSample_keeps (v : BitVec 4) :
    (s.armingSample v).pending = s.pending ∧ (s.armingSample v).bootStage = s.bootStage ∧
    (s.armingSample v).resetKind = s.resetKind ∧ (s.armingSample v).setupSel = s.setupSel ∧
    (s.armingSample v).evLevels = s.evLevels ∧ (s.armingSample v).ursp = s.ursp ∧
    (s.armingSample v).alert = s.alert ∧ (s.armingSample v).tick = s.tick ∧ (s.armingSample v).cycles = s.cycles ∧
    (s.armingSample v).partState = s.partState ∧ (s.armingSample v).wasActive = s.wasActive ∧
    (s.armingSample v).fellToDefault = s.fellToDefault ∧ (s.armingSample v).boot = s.boot ∧
    (s.armingSample v).live = s.live ∧ (s.armingSample v).setup = s.setup ∧
    (s.armingSample v).releaseClaim = s.releaseClaim ∧ (s.armingSample v).flags = s.flags ∧
    (s.armingSample v).statusEntry = s.statusEntry ∧ (s.armingSample v).statusWritten = s.statusWritten ∧
    (s.armingSample v).command = s.command ∧ (s.armingSample v).commandEntry = s.commandEntry ∧
    (s.armingSample v).commandWritten = s.commandWritten ∧ (s.armingSample v).outstanding = s.outstanding ∧
    (s.armingSample v).head = s.head ∧ (s.armingSample v).responses = s.responses ∧
    (s.armingSample v).tags = s.tags ∧ (s.armingSample v).passQueue = s.passQueue ∧
    (s.armingSample v).dreq = s.dreq ∧ (s.armingSample v).windows = s.windows ∧
    (s.armingSample v).entries = s.entries ∧ (s.armingSample v).suspects = s.suspects ∧
    (s.armingSample v).sweepQueue = s.sweepQueue ∧ (s.armingSample v).engine = s.engine ∧
    (s.armingSample v).intervals = s.intervals ∧ (s.armingSample v).intervalDue = s.intervalDue ∧
    (s.armingSample v).bindings = s.bindings ∧ (s.armingSample v).chord = s.chord ∧
    (s.armingSample v).chordFired = s.chordFired ∧ (s.armingSample v).servicePos = s.servicePos ∧
    (s.armingSample v).eventClaim = s.eventClaim ∧ (s.armingSample v).newCounts = s.newCounts ∧
    (s.armingSample v).logStyle = s.logStyle ∧ (s.armingSample v).logBase = s.logBase ∧
    (s.armingSample v).logNext = s.logNext ∧ (s.armingSample v).logHeld = s.logHeld ∧
    (s.armingSample v).logQueue = s.logQueue := by
  simp only [State.armingSample, and_self]

@[simp] theorem abandonSweeps_keeps :
    (s.abandonSweeps).pending = s.pending ∧ (s.abandonSweeps).bootStage = s.bootStage ∧
    (s.abandonSweeps).resetKind = s.resetKind ∧ (s.abandonSweeps).setupSel = s.setupSel ∧
    (s.abandonSweeps).evLevels = s.evLevels ∧ (s.abandonSweeps).ursp = s.ursp ∧ (s.abandonSweeps).alert = s.alert ∧
    (s.abandonSweeps).tick = s.tick ∧ (s.abandonSweeps).cycles = s.cycles ∧
    (s.abandonSweeps).partState = s.partState ∧ (s.abandonSweeps).wasActive = s.wasActive ∧
    (s.abandonSweeps).fellToDefault = s.fellToDefault ∧ (s.abandonSweeps).boot = s.boot ∧
    (s.abandonSweeps).live = s.live ∧ (s.abandonSweeps).setup = s.setup ∧
    (s.abandonSweeps).releaseClaim = s.releaseClaim ∧ (s.abandonSweeps).flags = s.flags ∧
    (s.abandonSweeps).statusEntry = s.statusEntry ∧ (s.abandonSweeps).statusWritten = s.statusWritten ∧
    (s.abandonSweeps).command = s.command ∧ (s.abandonSweeps).commandEntry = s.commandEntry ∧
    (s.abandonSweeps).commandWritten = s.commandWritten ∧ (s.abandonSweeps).outstanding = s.outstanding ∧
    (s.abandonSweeps).head = s.head ∧ (s.abandonSweeps).responses = s.responses ∧ (s.abandonSweeps).tags = s.tags ∧
    (s.abandonSweeps).passQueue = s.passQueue ∧ (s.abandonSweeps).dreq = s.dreq ∧
    (s.abandonSweeps).windows = s.windows ∧ (s.abandonSweeps).entries = s.entries ∧
    (s.abandonSweeps).suspects = s.suspects ∧ (s.abandonSweeps).intervals = s.intervals ∧
    (s.abandonSweeps).intervalDue = s.intervalDue ∧ (s.abandonSweeps).bindings = s.bindings ∧
    (s.abandonSweeps).chord = s.chord ∧ (s.abandonSweeps).levels = s.levels ∧ (s.abandonSweeps).inputs = s.inputs ∧
    (s.abandonSweeps).chordTimer = s.chordTimer ∧ (s.abandonSweeps).chordFired = s.chordFired ∧
    (s.abandonSweeps).servicePos = s.servicePos ∧ (s.abandonSweeps).eventClaim = s.eventClaim ∧
    (s.abandonSweeps).newCounts = s.newCounts ∧ (s.abandonSweeps).logStyle = s.logStyle ∧
    (s.abandonSweeps).logBase = s.logBase ∧ (s.abandonSweeps).logNext = s.logNext ∧
    (s.abandonSweeps).logHeld = s.logHeld ∧ (s.abandonSweeps).logQueue = s.logQueue := by
  simp only [State.abandonSweeps, and_self]

@[simp] theorem startSweep_keeps (q : SweepRequest) (rest : List SweepRequest) (r : WindowRecord) :
    (s.startSweep q rest r).pending = s.pending ∧ (s.startSweep q rest r).bootStage = s.bootStage ∧
    (s.startSweep q rest r).resetKind = s.resetKind ∧ (s.startSweep q rest r).setupSel = s.setupSel ∧
    (s.startSweep q rest r).evLevels = s.evLevels ∧ (s.startSweep q rest r).ursp = s.ursp ∧
    (s.startSweep q rest r).alert = s.alert ∧ (s.startSweep q rest r).tick = s.tick ∧
    (s.startSweep q rest r).cycles = s.cycles ∧ (s.startSweep q rest r).partState = s.partState ∧
    (s.startSweep q rest r).wasActive = s.wasActive ∧ (s.startSweep q rest r).fellToDefault = s.fellToDefault ∧
    (s.startSweep q rest r).boot = s.boot ∧ (s.startSweep q rest r).live = s.live ∧
    (s.startSweep q rest r).setup = s.setup ∧ (s.startSweep q rest r).releaseClaim = s.releaseClaim ∧
    (s.startSweep q rest r).flags = s.flags ∧ (s.startSweep q rest r).statusEntry = s.statusEntry ∧
    (s.startSweep q rest r).statusWritten = s.statusWritten ∧ (s.startSweep q rest r).command = s.command ∧
    (s.startSweep q rest r).commandEntry = s.commandEntry ∧
    (s.startSweep q rest r).commandWritten = s.commandWritten ∧
    (s.startSweep q rest r).outstanding = s.outstanding ∧ (s.startSweep q rest r).head = s.head ∧
    (s.startSweep q rest r).responses = s.responses ∧ (s.startSweep q rest r).tags = s.tags ∧
    (s.startSweep q rest r).passQueue = s.passQueue ∧ (s.startSweep q rest r).dreq = s.dreq ∧
    (s.startSweep q rest r).entries = s.entries ∧ (s.startSweep q rest r).suspects = s.suspects ∧
    (s.startSweep q rest r).intervals = s.intervals ∧ (s.startSweep q rest r).intervalDue = s.intervalDue ∧
    (s.startSweep q rest r).bindings = s.bindings ∧ (s.startSweep q rest r).chord = s.chord ∧
    (s.startSweep q rest r).levels = s.levels ∧ (s.startSweep q rest r).inputs = s.inputs ∧
    (s.startSweep q rest r).chordTimer = s.chordTimer ∧ (s.startSweep q rest r).chordFired = s.chordFired ∧
    (s.startSweep q rest r).servicePos = s.servicePos ∧ (s.startSweep q rest r).eventClaim = s.eventClaim ∧
    (s.startSweep q rest r).newCounts = s.newCounts ∧ (s.startSweep q rest r).logStyle = s.logStyle ∧
    (s.startSweep q rest r).logBase = s.logBase ∧ (s.startSweep q rest r).logNext = s.logNext ∧
    (s.startSweep q rest r).logHeld = s.logHeld ∧ (s.startSweep q rest r).logQueue = s.logQueue := by
  simp only [State.startSweep, and_self]

@[simp] theorem produceEnding_keeps (sw : Sweep) (r : WindowRecord) (h : HeaderState) :
    (s.produceEnding sw r h).pending = s.pending ∧ (s.produceEnding sw r h).bootStage = s.bootStage ∧
    (s.produceEnding sw r h).resetKind = s.resetKind ∧ (s.produceEnding sw r h).setupSel = s.setupSel ∧
    (s.produceEnding sw r h).evLevels = s.evLevels ∧ (s.produceEnding sw r h).ursp = s.ursp ∧
    (s.produceEnding sw r h).alert = s.alert ∧ (s.produceEnding sw r h).tick = s.tick ∧
    (s.produceEnding sw r h).cycles = s.cycles ∧ (s.produceEnding sw r h).partState = s.partState ∧
    (s.produceEnding sw r h).wasActive = s.wasActive ∧ (s.produceEnding sw r h).fellToDefault = s.fellToDefault ∧
    (s.produceEnding sw r h).boot = s.boot ∧ (s.produceEnding sw r h).live = s.live ∧
    (s.produceEnding sw r h).setup = s.setup ∧ (s.produceEnding sw r h).releaseClaim = s.releaseClaim ∧
    (s.produceEnding sw r h).flags = s.flags ∧ (s.produceEnding sw r h).statusEntry = s.statusEntry ∧
    (s.produceEnding sw r h).statusWritten = s.statusWritten ∧ (s.produceEnding sw r h).command = s.command ∧
    (s.produceEnding sw r h).commandEntry = s.commandEntry ∧
    (s.produceEnding sw r h).commandWritten = s.commandWritten ∧
    (s.produceEnding sw r h).outstanding = s.outstanding ∧ (s.produceEnding sw r h).head = s.head ∧
    (s.produceEnding sw r h).responses = s.responses ∧ (s.produceEnding sw r h).tags = s.tags ∧
    (s.produceEnding sw r h).passQueue = s.passQueue ∧ (s.produceEnding sw r h).dreq = s.dreq ∧
    (s.produceEnding sw r h).windows = s.windows ∧ (s.produceEnding sw r h).entries = s.entries ∧
    (s.produceEnding sw r h).suspects = s.suspects ∧ (s.produceEnding sw r h).sweepQueue = s.sweepQueue ∧
    (s.produceEnding sw r h).intervals = s.intervals ∧ (s.produceEnding sw r h).intervalDue = s.intervalDue ∧
    (s.produceEnding sw r h).bindings = s.bindings ∧ (s.produceEnding sw r h).chord = s.chord ∧
    (s.produceEnding sw r h).levels = s.levels ∧ (s.produceEnding sw r h).inputs = s.inputs ∧
    (s.produceEnding sw r h).chordTimer = s.chordTimer ∧ (s.produceEnding sw r h).chordFired = s.chordFired ∧
    (s.produceEnding sw r h).servicePos = s.servicePos ∧ (s.produceEnding sw r h).eventClaim = s.eventClaim ∧
    (s.produceEnding sw r h).newCounts = s.newCounts ∧ (s.produceEnding sw r h).logStyle = s.logStyle ∧
    (s.produceEnding sw r h).logBase = s.logBase ∧ (s.produceEnding sw r h).logNext = s.logNext ∧
    (s.produceEnding sw r h).logHeld = s.logHeld ∧ (s.produceEnding sw r h).logQueue = s.logQueue := by
  simp only [State.produceEnding, and_self]

@[simp] theorem restartInterval_keeps (w : WindowNo) :
    (s.restartInterval w).pending = s.pending ∧ (s.restartInterval w).bootStage = s.bootStage ∧
    (s.restartInterval w).resetKind = s.resetKind ∧ (s.restartInterval w).setupSel = s.setupSel ∧
    (s.restartInterval w).evLevels = s.evLevels ∧ (s.restartInterval w).ursp = s.ursp ∧
    (s.restartInterval w).alert = s.alert ∧ (s.restartInterval w).tick = s.tick ∧
    (s.restartInterval w).cycles = s.cycles ∧ (s.restartInterval w).partState = s.partState ∧
    (s.restartInterval w).wasActive = s.wasActive ∧ (s.restartInterval w).fellToDefault = s.fellToDefault ∧
    (s.restartInterval w).boot = s.boot ∧ (s.restartInterval w).live = s.live ∧
    (s.restartInterval w).setup = s.setup ∧ (s.restartInterval w).releaseClaim = s.releaseClaim ∧
    (s.restartInterval w).flags = s.flags ∧ (s.restartInterval w).statusEntry = s.statusEntry ∧
    (s.restartInterval w).statusWritten = s.statusWritten ∧ (s.restartInterval w).command = s.command ∧
    (s.restartInterval w).commandEntry = s.commandEntry ∧ (s.restartInterval w).commandWritten = s.commandWritten ∧
    (s.restartInterval w).outstanding = s.outstanding ∧ (s.restartInterval w).head = s.head ∧
    (s.restartInterval w).responses = s.responses ∧ (s.restartInterval w).tags = s.tags ∧
    (s.restartInterval w).passQueue = s.passQueue ∧ (s.restartInterval w).dreq = s.dreq ∧
    (s.restartInterval w).windows = s.windows ∧ (s.restartInterval w).entries = s.entries ∧
    (s.restartInterval w).suspects = s.suspects ∧ (s.restartInterval w).sweepQueue = s.sweepQueue ∧
    (s.restartInterval w).engine = s.engine ∧ (s.restartInterval w).intervalDue = s.intervalDue ∧
    (s.restartInterval w).bindings = s.bindings ∧ (s.restartInterval w).chord = s.chord ∧
    (s.restartInterval w).levels = s.levels ∧ (s.restartInterval w).inputs = s.inputs ∧
    (s.restartInterval w).chordTimer = s.chordTimer ∧ (s.restartInterval w).chordFired = s.chordFired ∧
    (s.restartInterval w).servicePos = s.servicePos ∧ (s.restartInterval w).eventClaim = s.eventClaim ∧
    (s.restartInterval w).newCounts = s.newCounts ∧ (s.restartInterval w).logStyle = s.logStyle ∧
    (s.restartInterval w).logBase = s.logBase ∧ (s.restartInterval w).logNext = s.logNext ∧
    (s.restartInterval w).logHeld = s.logHeld ∧ (s.restartInterval w).logQueue = s.logQueue := by
  simp only [State.restartInterval, and_self]

@[simp] theorem countIntervals_keeps :
    (s.countIntervals).pending = s.pending ∧ (s.countIntervals).bootStage = s.bootStage ∧
    (s.countIntervals).resetKind = s.resetKind ∧ (s.countIntervals).setupSel = s.setupSel ∧
    (s.countIntervals).evLevels = s.evLevels ∧ (s.countIntervals).ursp = s.ursp ∧
    (s.countIntervals).alert = s.alert ∧ (s.countIntervals).tick = s.tick ∧ (s.countIntervals).cycles = s.cycles ∧
    (s.countIntervals).partState = s.partState ∧ (s.countIntervals).wasActive = s.wasActive ∧
    (s.countIntervals).fellToDefault = s.fellToDefault ∧ (s.countIntervals).boot = s.boot ∧
    (s.countIntervals).live = s.live ∧ (s.countIntervals).setup = s.setup ∧
    (s.countIntervals).releaseClaim = s.releaseClaim ∧ (s.countIntervals).flags = s.flags ∧
    (s.countIntervals).statusEntry = s.statusEntry ∧ (s.countIntervals).statusWritten = s.statusWritten ∧
    (s.countIntervals).command = s.command ∧ (s.countIntervals).commandEntry = s.commandEntry ∧
    (s.countIntervals).commandWritten = s.commandWritten ∧ (s.countIntervals).outstanding = s.outstanding ∧
    (s.countIntervals).head = s.head ∧ (s.countIntervals).responses = s.responses ∧
    (s.countIntervals).tags = s.tags ∧ (s.countIntervals).passQueue = s.passQueue ∧
    (s.countIntervals).dreq = s.dreq ∧ (s.countIntervals).windows = s.windows ∧
    (s.countIntervals).entries = s.entries ∧ (s.countIntervals).suspects = s.suspects ∧
    (s.countIntervals).sweepQueue = s.sweepQueue ∧ (s.countIntervals).engine = s.engine ∧
    (s.countIntervals).bindings = s.bindings ∧ (s.countIntervals).chord = s.chord ∧
    (s.countIntervals).levels = s.levels ∧ (s.countIntervals).inputs = s.inputs ∧
    (s.countIntervals).chordTimer = s.chordTimer ∧ (s.countIntervals).chordFired = s.chordFired ∧
    (s.countIntervals).servicePos = s.servicePos ∧ (s.countIntervals).eventClaim = s.eventClaim ∧
    (s.countIntervals).newCounts = s.newCounts ∧ (s.countIntervals).logStyle = s.logStyle ∧
    (s.countIntervals).logBase = s.logBase ∧ (s.countIntervals).logNext = s.logNext ∧
    (s.countIntervals).logHeld = s.logHeld ∧ (s.countIntervals).logQueue = s.logQueue := by
  simp only [State.countIntervals, and_self]

@[simp] theorem loadCounters_keeps :
    (s.loadCounters).pending = s.pending ∧ (s.loadCounters).bootStage = s.bootStage ∧
    (s.loadCounters).resetKind = s.resetKind ∧ (s.loadCounters).setupSel = s.setupSel ∧
    (s.loadCounters).evLevels = s.evLevels ∧ (s.loadCounters).ursp = s.ursp ∧ (s.loadCounters).alert = s.alert ∧
    (s.loadCounters).tick = s.tick ∧ (s.loadCounters).cycles = s.cycles ∧ (s.loadCounters).partState = s.partState ∧
    (s.loadCounters).wasActive = s.wasActive ∧ (s.loadCounters).fellToDefault = s.fellToDefault ∧
    (s.loadCounters).boot = s.boot ∧ (s.loadCounters).live = s.live ∧ (s.loadCounters).setup = s.setup ∧
    (s.loadCounters).releaseClaim = s.releaseClaim ∧ (s.loadCounters).flags = s.flags ∧
    (s.loadCounters).statusEntry = s.statusEntry ∧ (s.loadCounters).statusWritten = s.statusWritten ∧
    (s.loadCounters).command = s.command ∧ (s.loadCounters).commandEntry = s.commandEntry ∧
    (s.loadCounters).commandWritten = s.commandWritten ∧ (s.loadCounters).outstanding = s.outstanding ∧
    (s.loadCounters).head = s.head ∧ (s.loadCounters).responses = s.responses ∧ (s.loadCounters).tags = s.tags ∧
    (s.loadCounters).passQueue = s.passQueue ∧ (s.loadCounters).dreq = s.dreq ∧
    (s.loadCounters).windows = s.windows ∧ (s.loadCounters).entries = s.entries ∧
    (s.loadCounters).sweepQueue = s.sweepQueue ∧ (s.loadCounters).engine = s.engine ∧
    (s.loadCounters).bindings = s.bindings ∧ (s.loadCounters).chord = s.chord ∧ (s.loadCounters).levels = s.levels ∧
    (s.loadCounters).inputs = s.inputs ∧ (s.loadCounters).chordTimer = s.chordTimer ∧
    (s.loadCounters).chordFired = s.chordFired ∧ (s.loadCounters).servicePos = s.servicePos ∧
    (s.loadCounters).eventClaim = s.eventClaim ∧ (s.loadCounters).newCounts = s.newCounts ∧
    (s.loadCounters).logStyle = s.logStyle ∧ (s.loadCounters).logBase = s.logBase ∧
    (s.loadCounters).logNext = s.logNext ∧ (s.loadCounters).logHeld = s.logHeld ∧
    (s.loadCounters).logQueue = s.logQueue := by
  simp only [State.loadCounters, and_self]

@[simp] theorem compareTags_keeps :
    (s.compareTags).pending = s.pending ∧ (s.compareTags).bootStage = s.bootStage ∧
    (s.compareTags).resetKind = s.resetKind ∧ (s.compareTags).setupSel = s.setupSel ∧
    (s.compareTags).evLevels = s.evLevels ∧ (s.compareTags).ursp = s.ursp ∧ (s.compareTags).alert = s.alert ∧
    (s.compareTags).tick = s.tick ∧ (s.compareTags).cycles = s.cycles ∧ (s.compareTags).partState = s.partState ∧
    (s.compareTags).wasActive = s.wasActive ∧ (s.compareTags).fellToDefault = s.fellToDefault ∧
    (s.compareTags).boot = s.boot ∧ (s.compareTags).live = s.live ∧ (s.compareTags).setup = s.setup ∧
    (s.compareTags).releaseClaim = s.releaseClaim ∧ (s.compareTags).flags = s.flags ∧
    (s.compareTags).statusEntry = s.statusEntry ∧ (s.compareTags).statusWritten = s.statusWritten ∧
    (s.compareTags).command = s.command ∧ (s.compareTags).commandEntry = s.commandEntry ∧
    (s.compareTags).commandWritten = s.commandWritten ∧ (s.compareTags).outstanding = s.outstanding ∧
    (s.compareTags).head = s.head ∧ (s.compareTags).responses = s.responses ∧
    (s.compareTags).passQueue = s.passQueue ∧ (s.compareTags).dreq = s.dreq ∧ (s.compareTags).windows = s.windows ∧
    (s.compareTags).entries = s.entries ∧ (s.compareTags).suspects = s.suspects ∧
    (s.compareTags).sweepQueue = s.sweepQueue ∧ (s.compareTags).engine = s.engine ∧
    (s.compareTags).intervals = s.intervals ∧ (s.compareTags).intervalDue = s.intervalDue ∧
    (s.compareTags).bindings = s.bindings ∧ (s.compareTags).chord = s.chord ∧ (s.compareTags).levels = s.levels ∧
    (s.compareTags).inputs = s.inputs ∧ (s.compareTags).chordTimer = s.chordTimer ∧
    (s.compareTags).chordFired = s.chordFired ∧ (s.compareTags).servicePos = s.servicePos ∧
    (s.compareTags).eventClaim = s.eventClaim ∧ (s.compareTags).newCounts = s.newCounts ∧
    (s.compareTags).logStyle = s.logStyle ∧ (s.compareTags).logBase = s.logBase ∧
    (s.compareTags).logNext = s.logNext ∧ (s.compareTags).logHeld = s.logHeld ∧
    (s.compareTags).logQueue = s.logQueue := by
  simp only [State.compareTags, and_self]

@[simp] theorem countTick_keeps :
    (s.countTick).pending = s.pending ∧ (s.countTick).bootStage = s.bootStage ∧
    (s.countTick).resetKind = s.resetKind ∧ (s.countTick).setupSel = s.setupSel ∧
    (s.countTick).evLevels = s.evLevels ∧ (s.countTick).alert = s.alert ∧ (s.countTick).partState = s.partState ∧
    (s.countTick).wasActive = s.wasActive ∧ (s.countTick).fellToDefault = s.fellToDefault ∧
    (s.countTick).boot = s.boot ∧ (s.countTick).live = s.live ∧ (s.countTick).setup = s.setup ∧
    (s.countTick).releaseClaim = s.releaseClaim ∧ (s.countTick).flags = s.flags ∧
    (s.countTick).statusEntry = s.statusEntry ∧ (s.countTick).statusWritten = s.statusWritten ∧
    (s.countTick).command = s.command ∧ (s.countTick).commandEntry = s.commandEntry ∧
    (s.countTick).commandWritten = s.commandWritten ∧ (s.countTick).outstanding = s.outstanding ∧
    (s.countTick).head = s.head ∧ (s.countTick).responses = s.responses ∧ (s.countTick).passQueue = s.passQueue ∧
    (s.countTick).dreq = s.dreq ∧ (s.countTick).windows = s.windows ∧ (s.countTick).entries = s.entries ∧
    (s.countTick).suspects = s.suspects ∧ (s.countTick).sweepQueue = s.sweepQueue ∧
    (s.countTick).engine = s.engine ∧ (s.countTick).intervals = s.intervals ∧
    (s.countTick).intervalDue = s.intervalDue ∧ (s.countTick).bindings = s.bindings ∧
    (s.countTick).chord = s.chord ∧ (s.countTick).levels = s.levels ∧ (s.countTick).inputs = s.inputs ∧
    (s.countTick).chordTimer = s.chordTimer ∧ (s.countTick).chordFired = s.chordFired ∧
    (s.countTick).servicePos = s.servicePos ∧ (s.countTick).eventClaim = s.eventClaim ∧
    (s.countTick).newCounts = s.newCounts ∧ (s.countTick).logStyle = s.logStyle ∧
    (s.countTick).logBase = s.logBase ∧ (s.countTick).logNext = s.logNext ∧ (s.countTick).logHeld = s.logHeld ∧
    (s.countTick).logQueue = s.logQueue := by
  simp only [State.countTick, State.compareTags, and_self]

@[simp] theorem rearmAll_keeps :
    (s.rearmAll).pending = s.pending ∧ (s.rearmAll).bootStage = s.bootStage ∧ (s.rearmAll).resetKind = s.resetKind ∧
    (s.rearmAll).setupSel = s.setupSel ∧ (s.rearmAll).evLevels = s.evLevels ∧ (s.rearmAll).ursp = s.ursp ∧
    (s.rearmAll).alert = s.alert ∧ (s.rearmAll).tick = s.tick ∧ (s.rearmAll).cycles = s.cycles ∧
    (s.rearmAll).partState = s.partState ∧ (s.rearmAll).wasActive = s.wasActive ∧
    (s.rearmAll).fellToDefault = s.fellToDefault ∧ (s.rearmAll).boot = s.boot ∧ (s.rearmAll).live = s.live ∧
    (s.rearmAll).setup = s.setup ∧ (s.rearmAll).releaseClaim = s.releaseClaim ∧ (s.rearmAll).flags = s.flags ∧
    (s.rearmAll).statusEntry = s.statusEntry ∧ (s.rearmAll).statusWritten = s.statusWritten ∧
    (s.rearmAll).command = s.command ∧ (s.rearmAll).commandEntry = s.commandEntry ∧
    (s.rearmAll).commandWritten = s.commandWritten ∧ (s.rearmAll).outstanding = s.outstanding ∧
    (s.rearmAll).head = s.head ∧ (s.rearmAll).responses = s.responses ∧ (s.rearmAll).tags = s.tags ∧
    (s.rearmAll).passQueue = s.passQueue ∧ (s.rearmAll).dreq = s.dreq ∧ (s.rearmAll).entries = s.entries ∧
    (s.rearmAll).suspects = s.suspects ∧ (s.rearmAll).sweepQueue = s.sweepQueue ∧ (s.rearmAll).engine = s.engine ∧
    (s.rearmAll).intervals = s.intervals ∧ (s.rearmAll).intervalDue = s.intervalDue ∧
    (s.rearmAll).bindings = s.bindings ∧ (s.rearmAll).chord = s.chord ∧ (s.rearmAll).levels = s.levels ∧
    (s.rearmAll).inputs = s.inputs ∧ (s.rearmAll).chordTimer = s.chordTimer ∧
    (s.rearmAll).chordFired = s.chordFired ∧ (s.rearmAll).servicePos = s.servicePos ∧
    (s.rearmAll).eventClaim = s.eventClaim ∧ (s.rearmAll).newCounts = s.newCounts ∧
    (s.rearmAll).logStyle = s.logStyle ∧ (s.rearmAll).logBase = s.logBase ∧ (s.rearmAll).logNext = s.logNext ∧
    (s.rearmAll).logHeld = s.logHeld ∧ (s.rearmAll).logQueue = s.logQueue := by
  simp only [State.rearmAll, and_self]

@[simp] theorem emptyTables_keeps :
    (s.emptyTables).pending = s.pending ∧ (s.emptyTables).bootStage = s.bootStage ∧
    (s.emptyTables).resetKind = s.resetKind ∧ (s.emptyTables).setupSel = s.setupSel ∧
    (s.emptyTables).evLevels = s.evLevels ∧ (s.emptyTables).ursp = s.ursp ∧ (s.emptyTables).alert = s.alert ∧
    (s.emptyTables).tick = s.tick ∧ (s.emptyTables).cycles = s.cycles ∧ (s.emptyTables).partState = s.partState ∧
    (s.emptyTables).fellToDefault = s.fellToDefault ∧ (s.emptyTables).boot = s.boot ∧
    (s.emptyTables).live = s.live ∧ (s.emptyTables).setup = s.setup ∧
    (s.emptyTables).releaseClaim = s.releaseClaim ∧ (s.emptyTables).flags = s.flags ∧
    (s.emptyTables).statusEntry = s.statusEntry ∧ (s.emptyTables).statusWritten = s.statusWritten ∧
    (s.emptyTables).command = s.command ∧ (s.emptyTables).commandEntry = s.commandEntry ∧
    (s.emptyTables).commandWritten = s.commandWritten ∧ (s.emptyTables).outstanding = s.outstanding ∧
    (s.emptyTables).head = s.head ∧ (s.emptyTables).responses = s.responses ∧ (s.emptyTables).tags = s.tags ∧
    (s.emptyTables).passQueue = s.passQueue ∧ (s.emptyTables).dreq = s.dreq ∧ (s.emptyTables).entries = s.entries ∧
    (s.emptyTables).sweepQueue = s.sweepQueue ∧ (s.emptyTables).engine = s.engine ∧
    (s.emptyTables).levels = s.levels ∧ (s.emptyTables).inputs = s.inputs ∧
    (s.emptyTables).chordTimer = s.chordTimer ∧ (s.emptyTables).chordFired = s.chordFired ∧
    (s.emptyTables).servicePos = s.servicePos ∧ (s.emptyTables).eventClaim = s.eventClaim ∧
    (s.emptyTables).newCounts = s.newCounts ∧ (s.emptyTables).logStyle = s.logStyle ∧
    (s.emptyTables).logBase = s.logBase ∧ (s.emptyTables).logNext = s.logNext ∧
    (s.emptyTables).logHeld = s.logHeld ∧ (s.emptyTables).logQueue = s.logQueue := by
  simp only [State.emptyTables, and_self]

@[simp] theorem beginBoot_keeps (sel : BitVec 3) :
    (s.beginBoot sel).pending = s.pending ∧ (s.beginBoot sel).resetKind = s.resetKind ∧
    (s.beginBoot sel).evLevels = s.evLevels ∧ (s.beginBoot sel).ursp = s.ursp ∧ (s.beginBoot sel).alert = s.alert ∧
    (s.beginBoot sel).tick = s.tick ∧ (s.beginBoot sel).cycles = s.cycles ∧
    (s.beginBoot sel).partState = s.partState ∧ (s.beginBoot sel).wasActive = s.wasActive ∧
    (s.beginBoot sel).fellToDefault = s.fellToDefault ∧ (s.beginBoot sel).boot = s.boot ∧
    (s.beginBoot sel).live = s.live ∧ (s.beginBoot sel).releaseClaim = s.releaseClaim ∧
    (s.beginBoot sel).flags = s.flags ∧ (s.beginBoot sel).statusEntry = s.statusEntry ∧
    (s.beginBoot sel).statusWritten = s.statusWritten ∧ (s.beginBoot sel).command = s.command ∧
    (s.beginBoot sel).commandEntry = s.commandEntry ∧ (s.beginBoot sel).commandWritten = s.commandWritten ∧
    (s.beginBoot sel).outstanding = s.outstanding ∧ (s.beginBoot sel).head = s.head ∧
    (s.beginBoot sel).responses = s.responses ∧ (s.beginBoot sel).tags = s.tags ∧
    (s.beginBoot sel).passQueue = s.passQueue ∧ (s.beginBoot sel).dreq = s.dreq ∧
    (s.beginBoot sel).windows = s.windows ∧ (s.beginBoot sel).entries = s.entries ∧
    (s.beginBoot sel).suspects = s.suspects ∧ (s.beginBoot sel).sweepQueue = s.sweepQueue ∧
    (s.beginBoot sel).engine = s.engine ∧ (s.beginBoot sel).intervals = s.intervals ∧
    (s.beginBoot sel).intervalDue = s.intervalDue ∧ (s.beginBoot sel).bindings = s.bindings ∧
    (s.beginBoot sel).chord = s.chord ∧ (s.beginBoot sel).levels = s.levels ∧ (s.beginBoot sel).inputs = s.inputs ∧
    (s.beginBoot sel).chordTimer = s.chordTimer ∧ (s.beginBoot sel).chordFired = s.chordFired ∧
    (s.beginBoot sel).servicePos = s.servicePos ∧ (s.beginBoot sel).eventClaim = s.eventClaim ∧
    (s.beginBoot sel).newCounts = s.newCounts ∧ (s.beginBoot sel).logStyle = s.logStyle ∧
    (s.beginBoot sel).logBase = s.logBase ∧ (s.beginBoot sel).logNext = s.logNext ∧
    (s.beginBoot sel).logHeld = s.logHeld ∧ (s.beginBoot sel).logQueue = s.logQueue := by
  simp only [State.beginBoot, and_self]

@[simp] theorem withPending_keeps (q : List Instr) :
    (s.withPending q).bootStage = s.bootStage ∧ (s.withPending q).resetKind = s.resetKind ∧
    (s.withPending q).setupSel = s.setupSel ∧ (s.withPending q).evLevels = s.evLevels ∧
    (s.withPending q).ursp = s.ursp ∧ (s.withPending q).alert = s.alert ∧ (s.withPending q).tick = s.tick ∧
    (s.withPending q).cycles = s.cycles ∧ (s.withPending q).partState = s.partState ∧
    (s.withPending q).wasActive = s.wasActive ∧ (s.withPending q).fellToDefault = s.fellToDefault ∧
    (s.withPending q).boot = s.boot ∧ (s.withPending q).live = s.live ∧ (s.withPending q).setup = s.setup ∧
    (s.withPending q).releaseClaim = s.releaseClaim ∧ (s.withPending q).flags = s.flags ∧
    (s.withPending q).statusEntry = s.statusEntry ∧ (s.withPending q).statusWritten = s.statusWritten ∧
    (s.withPending q).command = s.command ∧ (s.withPending q).commandEntry = s.commandEntry ∧
    (s.withPending q).commandWritten = s.commandWritten ∧ (s.withPending q).outstanding = s.outstanding ∧
    (s.withPending q).head = s.head ∧ (s.withPending q).responses = s.responses ∧ (s.withPending q).tags = s.tags ∧
    (s.withPending q).passQueue = s.passQueue ∧ (s.withPending q).dreq = s.dreq ∧
    (s.withPending q).windows = s.windows ∧ (s.withPending q).entries = s.entries ∧
    (s.withPending q).suspects = s.suspects ∧ (s.withPending q).sweepQueue = s.sweepQueue ∧
    (s.withPending q).engine = s.engine ∧ (s.withPending q).intervals = s.intervals ∧
    (s.withPending q).intervalDue = s.intervalDue ∧ (s.withPending q).bindings = s.bindings ∧
    (s.withPending q).chord = s.chord ∧ (s.withPending q).levels = s.levels ∧ (s.withPending q).inputs = s.inputs ∧
    (s.withPending q).chordTimer = s.chordTimer ∧ (s.withPending q).chordFired = s.chordFired ∧
    (s.withPending q).servicePos = s.servicePos ∧ (s.withPending q).eventClaim = s.eventClaim ∧
    (s.withPending q).newCounts = s.newCounts ∧ (s.withPending q).logStyle = s.logStyle ∧
    (s.withPending q).logBase = s.logBase ∧ (s.withPending q).logNext = s.logNext ∧
    (s.withPending q).logHeld = s.logHeld ∧ (s.withPending q).logQueue = s.logQueue := by
  simp only [State.withPending, and_self]

@[simp] theorem commit_keeps (t : State) :
    (s.commit t).pending = t.pending ∧ (s.commit t).bootStage = t.bootStage ∧ (s.commit t).resetKind = t.resetKind ∧
    (s.commit t).setupSel = t.setupSel ∧ (s.commit t).evLevels = t.evLevels ∧ (s.commit t).ursp = t.ursp ∧
    (s.commit t).tick = t.tick ∧ (s.commit t).cycles = t.cycles ∧ (s.commit t).partState = t.partState ∧
    (s.commit t).wasActive = t.wasActive ∧ (s.commit t).fellToDefault = t.fellToDefault ∧
    (s.commit t).boot = t.boot ∧ (s.commit t).live = t.live ∧ (s.commit t).setup = t.setup ∧
    (s.commit t).releaseClaim = t.releaseClaim ∧ (s.commit t).flags = t.flags ∧
    (s.commit t).statusWritten = t.statusWritten ∧ (s.commit t).command = t.command ∧
    (s.commit t).commandWritten = t.commandWritten ∧ (s.commit t).outstanding = t.outstanding ∧
    (s.commit t).head = t.head ∧ (s.commit t).responses = t.responses ∧ (s.commit t).tags = t.tags ∧
    (s.commit t).passQueue = t.passQueue ∧ (s.commit t).dreq = t.dreq ∧ (s.commit t).windows = t.windows ∧
    (s.commit t).entries = t.entries ∧ (s.commit t).suspects = t.suspects ∧ (s.commit t).sweepQueue = t.sweepQueue ∧
    (s.commit t).engine = t.engine ∧ (s.commit t).intervals = t.intervals ∧
    (s.commit t).intervalDue = t.intervalDue ∧ (s.commit t).bindings = t.bindings ∧ (s.commit t).chord = t.chord ∧
    (s.commit t).levels = t.levels ∧ (s.commit t).inputs = t.inputs ∧ (s.commit t).chordTimer = t.chordTimer ∧
    (s.commit t).chordFired = t.chordFired ∧ (s.commit t).servicePos = t.servicePos ∧
    (s.commit t).eventClaim = t.eventClaim ∧ (s.commit t).newCounts = t.newCounts ∧
    (s.commit t).logStyle = t.logStyle ∧ (s.commit t).logBase = t.logBase ∧ (s.commit t).logNext = t.logNext ∧
    (s.commit t).logHeld = t.logHeld ∧ (s.commit t).logQueue = t.logQueue := by
  simp only [State.commit, and_self]

end Sys2Proof.Machine
end

