-- ==== Sys2Proof/Laws/Ops.lean ====
section
/-!
SUPPORT. What the shared operations leave as it is: flags, incidents, sweep requests, crossings, commands.
-/

namespace Sys2Proof.Machine

variable (s : State)

@[simp] theorem setPartFlagIf_keeps (b : Bool) (f : PartFlag) :
    (s.setPartFlagIf b f).pending = s.pending ∧ (s.setPartFlagIf b f).bootStage = s.bootStage ∧
    (s.setPartFlagIf b f).resetKind = s.resetKind ∧ (s.setPartFlagIf b f).setupSel = s.setupSel ∧
    (s.setPartFlagIf b f).evLevels = s.evLevels ∧ (s.setPartFlagIf b f).ursp = s.ursp ∧
    (s.setPartFlagIf b f).alert = s.alert ∧ (s.setPartFlagIf b f).tick = s.tick ∧
    (s.setPartFlagIf b f).cycles = s.cycles ∧ (s.setPartFlagIf b f).partState = s.partState ∧
    (s.setPartFlagIf b f).wasActive = s.wasActive ∧ (s.setPartFlagIf b f).fellToDefault = s.fellToDefault ∧
    (s.setPartFlagIf b f).boot = s.boot ∧ (s.setPartFlagIf b f).live = s.live ∧
    (s.setPartFlagIf b f).setup = s.setup ∧ (s.setPartFlagIf b f).releaseClaim = s.releaseClaim ∧
    (s.setPartFlagIf b f).statusEntry = s.statusEntry ∧ (s.setPartFlagIf b f).statusWritten = s.statusWritten ∧
    (s.setPartFlagIf b f).command = s.command ∧ (s.setPartFlagIf b f).commandEntry = s.commandEntry ∧
    (s.setPartFlagIf b f).commandWritten = s.commandWritten ∧ (s.setPartFlagIf b f).outstanding = s.outstanding ∧
    (s.setPartFlagIf b f).head = s.head ∧ (s.setPartFlagIf b f).responses = s.responses ∧
    (s.setPartFlagIf b f).tags = s.tags ∧ (s.setPartFlagIf b f).passQueue = s.passQueue ∧
    (s.setPartFlagIf b f).dreq = s.dreq ∧ (s.setPartFlagIf b f).windows = s.windows ∧
    (s.setPartFlagIf b f).entries = s.entries ∧ (s.setPartFlagIf b f).suspects = s.suspects ∧
    (s.setPartFlagIf b f).sweepQueue = s.sweepQueue ∧ (s.setPartFlagIf b f).engine = s.engine ∧
    (s.setPartFlagIf b f).intervals = s.intervals ∧ (s.setPartFlagIf b f).intervalDue = s.intervalDue ∧
    (s.setPartFlagIf b f).bindings = s.bindings ∧ (s.setPartFlagIf b f).chord = s.chord ∧
    (s.setPartFlagIf b f).levels = s.levels ∧ (s.setPartFlagIf b f).inputs = s.inputs ∧
    (s.setPartFlagIf b f).chordTimer = s.chordTimer ∧ (s.setPartFlagIf b f).chordFired = s.chordFired ∧
    (s.setPartFlagIf b f).servicePos = s.servicePos ∧ (s.setPartFlagIf b f).eventClaim = s.eventClaim ∧
    (s.setPartFlagIf b f).newCounts = s.newCounts ∧ (s.setPartFlagIf b f).logStyle = s.logStyle ∧
    (s.setPartFlagIf b f).logBase = s.logBase ∧ (s.setPartFlagIf b f).logNext = s.logNext ∧
    (s.setPartFlagIf b f).logHeld = s.logHeld ∧ (s.setPartFlagIf b f).logQueue = s.logQueue := by
  dsimp only [State.setPartFlagIf]
  (repeat' split) <;> simp

@[simp] theorem keepIncident_keeps (i : Incident) :
    (s.keepIncident i).pending = s.pending ∧ (s.keepIncident i).bootStage = s.bootStage ∧
    (s.keepIncident i).resetKind = s.resetKind ∧ (s.keepIncident i).setupSel = s.setupSel ∧
    (s.keepIncident i).evLevels = s.evLevels ∧ (s.keepIncident i).ursp = s.ursp ∧
    (s.keepIncident i).alert = s.alert ∧ (s.keepIncident i).tick = s.tick ∧ (s.keepIncident i).cycles = s.cycles ∧
    (s.keepIncident i).partState = s.partState ∧ (s.keepIncident i).wasActive = s.wasActive ∧
    (s.keepIncident i).fellToDefault = s.fellToDefault ∧ (s.keepIncident i).boot = s.boot ∧
    (s.keepIncident i).live = s.live ∧ (s.keepIncident i).setup = s.setup ∧
    (s.keepIncident i).releaseClaim = s.releaseClaim ∧ (s.keepIncident i).statusEntry = s.statusEntry ∧
    (s.keepIncident i).statusWritten = s.statusWritten ∧ (s.keepIncident i).command = s.command ∧
    (s.keepIncident i).commandEntry = s.commandEntry ∧ (s.keepIncident i).commandWritten = s.commandWritten ∧
    (s.keepIncident i).outstanding = s.outstanding ∧ (s.keepIncident i).head = s.head ∧
    (s.keepIncident i).responses = s.responses ∧ (s.keepIncident i).tags = s.tags ∧
    (s.keepIncident i).passQueue = s.passQueue ∧ (s.keepIncident i).dreq = s.dreq ∧
    (s.keepIncident i).windows = s.windows ∧ (s.keepIncident i).entries = s.entries ∧
    (s.keepIncident i).suspects = s.suspects ∧ (s.keepIncident i).sweepQueue = s.sweepQueue ∧
    (s.keepIncident i).engine = s.engine ∧ (s.keepIncident i).intervals = s.intervals ∧
    (s.keepIncident i).intervalDue = s.intervalDue ∧ (s.keepIncident i).bindings = s.bindings ∧
    (s.keepIncident i).chord = s.chord ∧ (s.keepIncident i).levels = s.levels ∧
    (s.keepIncident i).inputs = s.inputs ∧ (s.keepIncident i).chordTimer = s.chordTimer ∧
    (s.keepIncident i).chordFired = s.chordFired ∧ (s.keepIncident i).servicePos = s.servicePos ∧
    (s.keepIncident i).eventClaim = s.eventClaim ∧ (s.keepIncident i).newCounts = s.newCounts ∧
    (s.keepIncident i).logStyle = s.logStyle ∧ (s.keepIncident i).logBase = s.logBase ∧
    (s.keepIncident i).logNext = s.logNext ∧ (s.keepIncident i).logHeld = s.logHeld := by
  dsimp only [State.keepIncident]
  (repeat' split) <;> simp

@[simp] theorem takeIncident_keeps (i : Incident) :
    (s.takeIncident i).pending = s.pending ∧ (s.takeIncident i).bootStage = s.bootStage ∧
    (s.takeIncident i).resetKind = s.resetKind ∧ (s.takeIncident i).setupSel = s.setupSel ∧
    (s.takeIncident i).evLevels = s.evLevels ∧ (s.takeIncident i).ursp = s.ursp ∧
    (s.takeIncident i).alert = s.alert ∧ (s.takeIncident i).tick = s.tick ∧ (s.takeIncident i).cycles = s.cycles ∧
    (s.takeIncident i).partState = s.partState ∧ (s.takeIncident i).wasActive = s.wasActive ∧
    (s.takeIncident i).fellToDefault = s.fellToDefault ∧ (s.takeIncident i).boot = s.boot ∧
    (s.takeIncident i).live = s.live ∧ (s.takeIncident i).setup = s.setup ∧
    (s.takeIncident i).releaseClaim = s.releaseClaim ∧ (s.takeIncident i).statusEntry = s.statusEntry ∧
    (s.takeIncident i).statusWritten = s.statusWritten ∧ (s.takeIncident i).command = s.command ∧
    (s.takeIncident i).commandEntry = s.commandEntry ∧ (s.takeIncident i).commandWritten = s.commandWritten ∧
    (s.takeIncident i).outstanding = s.outstanding ∧ (s.takeIncident i).head = s.head ∧
    (s.takeIncident i).responses = s.responses ∧ (s.takeIncident i).tags = s.tags ∧
    (s.takeIncident i).passQueue = s.passQueue ∧ (s.takeIncident i).dreq = s.dreq ∧
    (s.takeIncident i).windows = s.windows ∧ (s.takeIncident i).entries = s.entries ∧
    (s.takeIncident i).suspects = s.suspects ∧ (s.takeIncident i).sweepQueue = s.sweepQueue ∧
    (s.takeIncident i).engine = s.engine ∧ (s.takeIncident i).intervals = s.intervals ∧
    (s.takeIncident i).intervalDue = s.intervalDue ∧ (s.takeIncident i).bindings = s.bindings ∧
    (s.takeIncident i).chord = s.chord ∧ (s.takeIncident i).levels = s.levels ∧
    (s.takeIncident i).inputs = s.inputs ∧ (s.takeIncident i).chordTimer = s.chordTimer ∧
    (s.takeIncident i).chordFired = s.chordFired ∧ (s.takeIncident i).servicePos = s.servicePos ∧
    (s.takeIncident i).eventClaim = s.eventClaim ∧ (s.takeIncident i).newCounts = s.newCounts ∧
    (s.takeIncident i).logStyle = s.logStyle ∧ (s.takeIncident i).logBase = s.logBase := by
  dsimp only [State.takeIncident]
  (repeat' split) <;> simp

@[simp] theorem logIncident_keeps (i : Incident) :
    (s.logIncident i).pending = s.pending ∧ (s.logIncident i).bootStage = s.bootStage ∧
    (s.logIncident i).resetKind = s.resetKind ∧ (s.logIncident i).setupSel = s.setupSel ∧
    (s.logIncident i).evLevels = s.evLevels ∧ (s.logIncident i).ursp = s.ursp ∧ (s.logIncident i).alert = s.alert ∧
    (s.logIncident i).tick = s.tick ∧ (s.logIncident i).cycles = s.cycles ∧
    (s.logIncident i).partState = s.partState ∧ (s.logIncident i).wasActive = s.wasActive ∧
    (s.logIncident i).fellToDefault = s.fellToDefault ∧ (s.logIncident i).boot = s.boot ∧
    (s.logIncident i).live = s.live ∧ (s.logIncident i).setup = s.setup ∧
    (s.logIncident i).releaseClaim = s.releaseClaim ∧ (s.logIncident i).statusEntry = s.statusEntry ∧
    (s.logIncident i).statusWritten = s.statusWritten ∧ (s.logIncident i).command = s.command ∧
    (s.logIncident i).commandEntry = s.commandEntry ∧ (s.logIncident i).commandWritten = s.commandWritten ∧
    (s.logIncident i).outstanding = s.outstanding ∧ (s.logIncident i).head = s.head ∧
    (s.logIncident i).responses = s.responses ∧ (s.logIncident i).tags = s.tags ∧
    (s.logIncident i).passQueue = s.passQueue ∧ (s.logIncident i).dreq = s.dreq ∧
    (s.logIncident i).windows = s.windows ∧ (s.logIncident i).entries = s.entries ∧
    (s.logIncident i).suspects = s.suspects ∧ (s.logIncident i).sweepQueue = s.sweepQueue ∧
    (s.logIncident i).engine = s.engine ∧ (s.logIncident i).intervals = s.intervals ∧
    (s.logIncident i).intervalDue = s.intervalDue ∧ (s.logIncident i).bindings = s.bindings ∧
    (s.logIncident i).chord = s.chord ∧ (s.logIncident i).levels = s.levels ∧ (s.logIncident i).inputs = s.inputs ∧
    (s.logIncident i).chordTimer = s.chordTimer ∧ (s.logIncident i).chordFired = s.chordFired ∧
    (s.logIncident i).servicePos = s.servicePos ∧ (s.logIncident i).eventClaim = s.eventClaim ∧
    (s.logIncident i).newCounts = s.newCounts ∧ (s.logIncident i).logStyle = s.logStyle ∧
    (s.logIncident i).logBase = s.logBase := by
  dsimp only [State.logIncident]
  (repeat' split) <;> simp

@[simp] theorem report_keeps (k : IncidentKind) (w : Option WindowNo) (a : ByteAddr) (d : BitVec 32) :
    (s.report k w a d).pending = s.pending ∧ (s.report k w a d).bootStage = s.bootStage ∧
    (s.report k w a d).resetKind = s.resetKind ∧ (s.report k w a d).setupSel = s.setupSel ∧
    (s.report k w a d).evLevels = s.evLevels ∧ (s.report k w a d).ursp = s.ursp ∧
    (s.report k w a d).alert = s.alert ∧ (s.report k w a d).tick = s.tick ∧ (s.report k w a d).cycles = s.cycles ∧
    (s.report k w a d).partState = s.partState ∧ (s.report k w a d).wasActive = s.wasActive ∧
    (s.report k w a d).fellToDefault = s.fellToDefault ∧ (s.report k w a d).boot = s.boot ∧
    (s.report k w a d).live = s.live ∧ (s.report k w a d).setup = s.setup ∧
    (s.report k w a d).releaseClaim = s.releaseClaim ∧ (s.report k w a d).statusEntry = s.statusEntry ∧
    (s.report k w a d).statusWritten = s.statusWritten ∧ (s.report k w a d).command = s.command ∧
    (s.report k w a d).commandEntry = s.commandEntry ∧ (s.report k w a d).commandWritten = s.commandWritten ∧
    (s.report k w a d).outstanding = s.outstanding ∧ (s.report k w a d).head = s.head ∧
    (s.report k w a d).responses = s.responses ∧ (s.report k w a d).tags = s.tags ∧
    (s.report k w a d).passQueue = s.passQueue ∧ (s.report k w a d).dreq = s.dreq ∧
    (s.report k w a d).windows = s.windows ∧ (s.report k w a d).entries = s.entries ∧
    (s.report k w a d).suspects = s.suspects ∧ (s.report k w a d).sweepQueue = s.sweepQueue ∧
    (s.report k w a d).engine = s.engine ∧ (s.report k w a d).intervals = s.intervals ∧
    (s.report k w a d).intervalDue = s.intervalDue ∧ (s.report k w a d).bindings = s.bindings ∧
    (s.report k w a d).chord = s.chord ∧ (s.report k w a d).levels = s.levels ∧
    (s.report k w a d).inputs = s.inputs ∧ (s.report k w a d).chordTimer = s.chordTimer ∧
    (s.report k w a d).chordFired = s.chordFired ∧ (s.report k w a d).servicePos = s.servicePos ∧
    (s.report k w a d).eventClaim = s.eventClaim ∧ (s.report k w a d).newCounts = s.newCounts ∧
    (s.report k w a d).logStyle = s.logStyle ∧ (s.report k w a d).logBase = s.logBase := by
  simp [State.report]

@[simp] theorem enter_keeps (p : PartState) :
    (s.enter p).pending = s.pending ∧ (s.enter p).bootStage = s.bootStage ∧ (s.enter p).resetKind = s.resetKind ∧
    (s.enter p).setupSel = s.setupSel ∧ (s.enter p).evLevels = s.evLevels ∧ (s.enter p).ursp = s.ursp ∧
    (s.enter p).alert = s.alert ∧ (s.enter p).tick = s.tick ∧ (s.enter p).cycles = s.cycles ∧
    (s.enter p).wasActive = s.wasActive ∧ (s.enter p).fellToDefault = s.fellToDefault ∧ (s.enter p).boot = s.boot ∧
    (s.enter p).live = s.live ∧ (s.enter p).setup = s.setup ∧ (s.enter p).releaseClaim = s.releaseClaim ∧
    (s.enter p).statusEntry = s.statusEntry ∧ (s.enter p).statusWritten = s.statusWritten ∧
    (s.enter p).command = s.command ∧ (s.enter p).commandEntry = s.commandEntry ∧
    (s.enter p).commandWritten = s.commandWritten ∧ (s.enter p).outstanding = s.outstanding ∧
    (s.enter p).head = s.head ∧ (s.enter p).responses = s.responses ∧ (s.enter p).tags = s.tags ∧
    (s.enter p).passQueue = s.passQueue ∧ (s.enter p).dreq = s.dreq ∧ (s.enter p).windows = s.windows ∧
    (s.enter p).entries = s.entries ∧ (s.enter p).suspects = s.suspects ∧ (s.enter p).sweepQueue = s.sweepQueue ∧
    (s.enter p).engine = s.engine ∧ (s.enter p).intervals = s.intervals ∧ (s.enter p).intervalDue = s.intervalDue ∧
    (s.enter p).bindings = s.bindings ∧ (s.enter p).chord = s.chord ∧ (s.enter p).levels = s.levels ∧
    (s.enter p).inputs = s.inputs ∧ (s.enter p).chordTimer = s.chordTimer ∧ (s.enter p).chordFired = s.chordFired ∧
    (s.enter p).servicePos = s.servicePos ∧ (s.enter p).eventClaim = s.eventClaim ∧
    (s.enter p).newCounts = s.newCounts ∧ (s.enter p).logStyle = s.logStyle ∧ (s.enter p).logBase = s.logBase := by
  simp [State.enter]

@[simp] theorem setupInvalid_keeps (w : Option WindowNo) (a : ByteAddr) (d : BitVec 32) :
    (s.setupInvalid w a d).pending = s.pending ∧ (s.setupInvalid w a d).bootStage = s.bootStage ∧
    (s.setupInvalid w a d).resetKind = s.resetKind ∧ (s.setupInvalid w a d).setupSel = s.setupSel ∧
    (s.setupInvalid w a d).evLevels = s.evLevels ∧ (s.setupInvalid w a d).ursp = s.ursp ∧
    (s.setupInvalid w a d).alert = s.alert ∧ (s.setupInvalid w a d).tick = s.tick ∧
    (s.setupInvalid w a d).cycles = s.cycles ∧ (s.setupInvalid w a d).partState = s.partState ∧
    (s.setupInvalid w a d).wasActive = s.wasActive ∧ (s.setupInvalid w a d).boot = s.boot ∧
    (s.setupInvalid w a d).live = s.live ∧ (s.setupInvalid w a d).setup = s.setup ∧
    (s.setupInvalid w a d).releaseClaim = s.releaseClaim ∧ (s.setupInvalid w a d).statusEntry = s.statusEntry ∧
    (s.setupInvalid w a d).statusWritten = s.statusWritten ∧ (s.setupInvalid w a d).command = s.command ∧
    (s.setupInvalid w a d).commandEntry = s.commandEntry ∧
    (s.setupInvalid w a d).commandWritten = s.commandWritten ∧ (s.setupInvalid w a d).outstanding = s.outstanding ∧
    (s.setupInvalid w a d).head = s.head ∧ (s.setupInvalid w a d).responses = s.responses ∧
    (s.setupInvalid w a d).tags = s.tags ∧ (s.setupInvalid w a d).passQueue = s.passQueue ∧
    (s.setupInvalid w a d).dreq = s.dreq ∧ (s.setupInvalid w a d).windows = s.windows ∧
    (s.setupInvalid w a d).entries = s.entries ∧ (s.setupInvalid w a d).suspects = s.suspects ∧
    (s.setupInvalid w a d).sweepQueue = s.sweepQueue ∧ (s.setupInvalid w a d).engine = s.engine ∧
    (s.setupInvalid w a d).intervals = s.intervals ∧ (s.setupInvalid w a d).intervalDue = s.intervalDue ∧
    (s.setupInvalid w a d).bindings = s.bindings ∧ (s.setupInvalid w a d).chord = s.chord ∧
    (s.setupInvalid w a d).levels = s.levels ∧ (s.setupInvalid w a d).inputs = s.inputs ∧
    (s.setupInvalid w a d).chordTimer = s.chordTimer ∧ (s.setupInvalid w a d).chordFired = s.chordFired ∧
    (s.setupInvalid w a d).servicePos = s.servicePos ∧ (s.setupInvalid w a d).eventClaim = s.eventClaim ∧
    (s.setupInvalid w a d).newCounts = s.newCounts ∧ (s.setupInvalid w a d).logStyle = s.logStyle ∧
    (s.setupInvalid w a d).logBase = s.logBase := by
  simp [State.setupInvalid]

@[simp] theorem countCrossing_keeps (w : WindowNo) (l : LineAddr) (v : Watched) :
    (s.countCrossing w l v).pending = s.pending ∧ (s.countCrossing w l v).bootStage = s.bootStage ∧
    (s.countCrossing w l v).resetKind = s.resetKind ∧ (s.countCrossing w l v).setupSel = s.setupSel ∧
    (s.countCrossing w l v).evLevels = s.evLevels ∧ (s.countCrossing w l v).ursp = s.ursp ∧
    (s.countCrossing w l v).alert = s.alert ∧ (s.countCrossing w l v).tick = s.tick ∧
    (s.countCrossing w l v).cycles = s.cycles ∧ (s.countCrossing w l v).partState = s.partState ∧
    (s.countCrossing w l v).wasActive = s.wasActive ∧ (s.countCrossing w l v).fellToDefault = s.fellToDefault ∧
    (s.countCrossing w l v).boot = s.boot ∧ (s.countCrossing w l v).live = s.live ∧
    (s.countCrossing w l v).setup = s.setup ∧ (s.countCrossing w l v).releaseClaim = s.releaseClaim ∧
    (s.countCrossing w l v).statusEntry = s.statusEntry ∧ (s.countCrossing w l v).statusWritten = s.statusWritten ∧
    (s.countCrossing w l v).command = s.command ∧ (s.countCrossing w l v).commandEntry = s.commandEntry ∧
    (s.countCrossing w l v).commandWritten = s.commandWritten ∧
    (s.countCrossing w l v).outstanding = s.outstanding ∧ (s.countCrossing w l v).head = s.head ∧
    (s.countCrossing w l v).responses = s.responses ∧ (s.countCrossing w l v).tags = s.tags ∧
    (s.countCrossing w l v).passQueue = s.passQueue ∧ (s.countCrossing w l v).dreq = s.dreq ∧
    (s.countCrossing w l v).windows = s.windows ∧ (s.countCrossing w l v).entries = s.entries ∧
    (s.countCrossing w l v).suspects = s.suspects ∧ (s.countCrossing w l v).sweepQueue = s.sweepQueue ∧
    (s.countCrossing w l v).engine = s.engine ∧ (s.countCrossing w l v).intervals = s.intervals ∧
    (s.countCrossing w l v).intervalDue = s.intervalDue ∧ (s.countCrossing w l v).bindings = s.bindings ∧
    (s.countCrossing w l v).chord = s.chord ∧ (s.countCrossing w l v).levels = s.levels ∧
    (s.countCrossing w l v).inputs = s.inputs ∧ (s.countCrossing w l v).chordTimer = s.chordTimer ∧
    (s.countCrossing w l v).chordFired = s.chordFired ∧ (s.countCrossing w l v).servicePos = s.servicePos ∧
    (s.countCrossing w l v).eventClaim = s.eventClaim ∧ (s.countCrossing w l v).newCounts = s.newCounts ∧
    (s.countCrossing w l v).logStyle = s.logStyle ∧ (s.countCrossing w l v).logBase = s.logBase := by
  simp [State.countCrossing]

@[simp] theorem testCrossing_keeps (w : WindowNo) (r : WindowRecord) (l : LineAddr) (v : Watched) :
    (s.testCrossing w r l v).pending = s.pending ∧ (s.testCrossing w r l v).bootStage = s.bootStage ∧
    (s.testCrossing w r l v).resetKind = s.resetKind ∧ (s.testCrossing w r l v).setupSel = s.setupSel ∧
    (s.testCrossing w r l v).evLevels = s.evLevels ∧ (s.testCrossing w r l v).ursp = s.ursp ∧
    (s.testCrossing w r l v).alert = s.alert ∧ (s.testCrossing w r l v).tick = s.tick ∧
    (s.testCrossing w r l v).cycles = s.cycles ∧ (s.testCrossing w r l v).partState = s.partState ∧
    (s.testCrossing w r l v).wasActive = s.wasActive ∧ (s.testCrossing w r l v).fellToDefault = s.fellToDefault ∧
    (s.testCrossing w r l v).boot = s.boot ∧ (s.testCrossing w r l v).live = s.live ∧
    (s.testCrossing w r l v).setup = s.setup ∧ (s.testCrossing w r l v).releaseClaim = s.releaseClaim ∧
    (s.testCrossing w r l v).statusEntry = s.statusEntry ∧
    (s.testCrossing w r l v).statusWritten = s.statusWritten ∧ (s.testCrossing w r l v).command = s.command ∧
    (s.testCrossing w r l v).commandEntry = s.commandEntry ∧
    (s.testCrossing w r l v).commandWritten = s.commandWritten ∧
    (s.testCrossing w r l v).outstanding = s.outstanding ∧ (s.testCrossing w r l v).head = s.head ∧
    (s.testCrossing w r l v).responses = s.responses ∧ (s.testCrossing w r l v).tags = s.tags ∧
    (s.testCrossing w r l v).passQueue = s.passQueue ∧ (s.testCrossing w r l v).dreq = s.dreq ∧
    (s.testCrossing w r l v).entries = s.entries ∧ (s.testCrossing w r l v).suspects = s.suspects ∧
    (s.testCrossing w r l v).sweepQueue = s.sweepQueue ∧ (s.testCrossing w r l v).engine = s.engine ∧
    (s.testCrossing w r l v).intervals = s.intervals ∧ (s.testCrossing w r l v).intervalDue = s.intervalDue ∧
    (s.testCrossing w r l v).bindings = s.bindings ∧ (s.testCrossing w r l v).chord = s.chord ∧
    (s.testCrossing w r l v).levels = s.levels ∧ (s.testCrossing w r l v).inputs = s.inputs ∧
    (s.testCrossing w r l v).chordTimer = s.chordTimer ∧ (s.testCrossing w r l v).chordFired = s.chordFired ∧
    (s.testCrossing w r l v).servicePos = s.servicePos ∧ (s.testCrossing w r l v).eventClaim = s.eventClaim ∧
    (s.testCrossing w r l v).newCounts = s.newCounts ∧ (s.testCrossing w r l v).logStyle = s.logStyle ∧
    (s.testCrossing w r l v).logBase = s.logBase := by
  dsimp only [State.testCrossing]
  (repeat' split) <;> simp

@[simp] theorem testCrossings_keeps (w : WindowNo) (r : WindowRecord) (l : LineAddr) (vs : List Watched) :
    (s.testCrossings w r l vs).pending = s.pending ∧ (s.testCrossings w r l vs).bootStage = s.bootStage ∧
    (s.testCrossings w r l vs).resetKind = s.resetKind ∧ (s.testCrossings w r l vs).setupSel = s.setupSel ∧
    (s.testCrossings w r l vs).evLevels = s.evLevels ∧ (s.testCrossings w r l vs).ursp = s.ursp ∧
    (s.testCrossings w r l vs).alert = s.alert ∧ (s.testCrossings w r l vs).tick = s.tick ∧
    (s.testCrossings w r l vs).cycles = s.cycles ∧ (s.testCrossings w r l vs).partState = s.partState ∧
    (s.testCrossings w r l vs).wasActive = s.wasActive ∧
    (s.testCrossings w r l vs).fellToDefault = s.fellToDefault ∧ (s.testCrossings w r l vs).boot = s.boot ∧
    (s.testCrossings w r l vs).live = s.live ∧ (s.testCrossings w r l vs).setup = s.setup ∧
    (s.testCrossings w r l vs).releaseClaim = s.releaseClaim ∧
    (s.testCrossings w r l vs).statusEntry = s.statusEntry ∧
    (s.testCrossings w r l vs).statusWritten = s.statusWritten ∧ (s.testCrossings w r l vs).command = s.command ∧
    (s.testCrossings w r l vs).commandEntry = s.commandEntry ∧
    (s.testCrossings w r l vs).commandWritten = s.commandWritten ∧
    (s.testCrossings w r l vs).outstanding = s.outstanding ∧ (s.testCrossings w r l vs).head = s.head ∧
    (s.testCrossings w r l vs).responses = s.responses ∧ (s.testCrossings w r l vs).tags = s.tags ∧
    (s.testCrossings w r l vs).passQueue = s.passQueue ∧ (s.testCrossings w r l vs).dreq = s.dreq ∧
    (s.testCrossings w r l vs).entries = s.entries ∧ (s.testCrossings w r l vs).suspects = s.suspects ∧
    (s.testCrossings w r l vs).sweepQueue = s.sweepQueue ∧ (s.testCrossings w r l vs).engine = s.engine ∧
    (s.testCrossings w r l vs).intervals = s.intervals ∧ (s.testCrossings w r l vs).intervalDue = s.intervalDue ∧
    (s.testCrossings w r l vs).bindings = s.bindings ∧ (s.testCrossings w r l vs).chord = s.chord ∧
    (s.testCrossings w r l vs).levels = s.levels ∧ (s.testCrossings w r l vs).inputs = s.inputs ∧
    (s.testCrossings w r l vs).chordTimer = s.chordTimer ∧ (s.testCrossings w r l vs).chordFired = s.chordFired ∧
    (s.testCrossings w r l vs).servicePos = s.servicePos ∧ (s.testCrossings w r l vs).eventClaim = s.eventClaim ∧
    (s.testCrossings w r l vs).newCounts = s.newCounts ∧ (s.testCrossings w r l vs).logStyle = s.logStyle ∧
    (s.testCrossings w r l vs).logBase = s.logBase := by
  unfold State.testCrossings
  induction vs generalizing s with
  | nil => simp
  | cons x xs ih => simp [ih]

@[simp] theorem handSweep_keeps (q : SweepRequest) :
    (s.handSweep q).pending = s.pending ∧ (s.handSweep q).bootStage = s.bootStage ∧
    (s.handSweep q).resetKind = s.resetKind ∧ (s.handSweep q).setupSel = s.setupSel ∧
    (s.handSweep q).evLevels = s.evLevels ∧ (s.handSweep q).ursp = s.ursp ∧ (s.handSweep q).alert = s.alert ∧
    (s.handSweep q).tick = s.tick ∧ (s.handSweep q).cycles = s.cycles ∧ (s.handSweep q).partState = s.partState ∧
    (s.handSweep q).wasActive = s.wasActive ∧ (s.handSweep q).fellToDefault = s.fellToDefault ∧
    (s.handSweep q).boot = s.boot ∧ (s.handSweep q).live = s.live ∧ (s.handSweep q).setup = s.setup ∧
    (s.handSweep q).releaseClaim = s.releaseClaim ∧ (s.handSweep q).statusEntry = s.statusEntry ∧
    (s.handSweep q).statusWritten = s.statusWritten ∧ (s.handSweep q).command = s.command ∧
    (s.handSweep q).commandEntry = s.commandEntry ∧ (s.handSweep q).commandWritten = s.commandWritten ∧
    (s.handSweep q).outstanding = s.outstanding ∧ (s.handSweep q).head = s.head ∧
    (s.handSweep q).responses = s.responses ∧ (s.handSweep q).tags = s.tags ∧
    (s.handSweep q).passQueue = s.passQueue ∧ (s.handSweep q).dreq = s.dreq ∧ (s.handSweep q).windows = s.windows ∧
    (s.handSweep q).entries = s.entries ∧ (s.handSweep q).suspects = s.suspects ∧
    (s.handSweep q).engine = s.engine ∧ (s.handSweep q).intervals = s.intervals ∧
    (s.handSweep q).intervalDue = s.intervalDue ∧ (s.handSweep q).bindings = s.bindings ∧
    (s.handSweep q).chord = s.chord ∧ (s.handSweep q).levels = s.levels ∧ (s.handSweep q).inputs = s.inputs ∧
    (s.handSweep q).chordTimer = s.chordTimer ∧ (s.handSweep q).chordFired = s.chordFired ∧
    (s.handSweep q).servicePos = s.servicePos ∧ (s.handSweep q).eventClaim = s.eventClaim ∧
    (s.handSweep q).newCounts = s.newCounts ∧ (s.handSweep q).logStyle = s.logStyle ∧
    (s.handSweep q).logBase = s.logBase := by
  dsimp only [State.handSweep]
  (repeat' split) <;> simp

@[simp] theorem handSweeps_keeps (qs : List SweepRequest) :
    (s.handSweeps qs).pending = s.pending ∧ (s.handSweeps qs).bootStage = s.bootStage ∧
    (s.handSweeps qs).resetKind = s.resetKind ∧ (s.handSweeps qs).setupSel = s.setupSel ∧
    (s.handSweeps qs).evLevels = s.evLevels ∧ (s.handSweeps qs).ursp = s.ursp ∧ (s.handSweeps qs).alert = s.alert ∧
    (s.handSweeps qs).tick = s.tick ∧ (s.handSweeps qs).cycles = s.cycles ∧
    (s.handSweeps qs).partState = s.partState ∧ (s.handSweeps qs).wasActive = s.wasActive ∧
    (s.handSweeps qs).fellToDefault = s.fellToDefault ∧ (s.handSweeps qs).boot = s.boot ∧
    (s.handSweeps qs).live = s.live ∧ (s.handSweeps qs).setup = s.setup ∧
    (s.handSweeps qs).releaseClaim = s.releaseClaim ∧ (s.handSweeps qs).statusEntry = s.statusEntry ∧
    (s.handSweeps qs).statusWritten = s.statusWritten ∧ (s.handSweeps qs).command = s.command ∧
    (s.handSweeps qs).commandEntry = s.commandEntry ∧ (s.handSweeps qs).commandWritten = s.commandWritten ∧
    (s.handSweeps qs).outstanding = s.outstanding ∧ (s.handSweeps qs).head = s.head ∧
    (s.handSweeps qs).responses = s.responses ∧ (s.handSweeps qs).tags = s.tags ∧
    (s.handSweeps qs).passQueue = s.passQueue ∧ (s.handSweeps qs).dreq = s.dreq ∧
    (s.handSweeps qs).windows = s.windows ∧ (s.handSweeps qs).entries = s.entries ∧
    (s.handSweeps qs).suspects = s.suspects ∧ (s.handSweeps qs).engine = s.engine ∧
    (s.handSweeps qs).intervals = s.intervals ∧ (s.handSweeps qs).intervalDue = s.intervalDue ∧
    (s.handSweeps qs).bindings = s.bindings ∧ (s.handSweeps qs).chord = s.chord ∧
    (s.handSweeps qs).levels = s.levels ∧ (s.handSweeps qs).inputs = s.inputs ∧
    (s.handSweeps qs).chordTimer = s.chordTimer ∧ (s.handSweeps qs).chordFired = s.chordFired ∧
    (s.handSweeps qs).servicePos = s.servicePos ∧ (s.handSweeps qs).eventClaim = s.eventClaim ∧
    (s.handSweeps qs).newCounts = s.newCounts ∧ (s.handSweeps qs).logStyle = s.logStyle ∧
    (s.handSweeps qs).logBase = s.logBase := by
  unfold State.handSweeps
  induction qs generalizing s with
  | nil => simp
  | cons x xs ih => simp [ih]

end Sys2Proof.Machine
end

