-- ==== Sys2Proof/Laws/Table.lean ====
section
/-!
SUPPORT. What the operations of the Open Line Table and of the Sweep Engine leave as it is.
-/

namespace Sys2Proof.Machine

variable (s : State)

@[simp] theorem advanceSweep_keeps (sw : Sweep) (r : WindowRecord) :
    (s.advanceSweep sw r).pending = s.pending ∧ (s.advanceSweep sw r).bootStage = s.bootStage ∧
    (s.advanceSweep sw r).resetKind = s.resetKind ∧ (s.advanceSweep sw r).setupSel = s.setupSel ∧
    (s.advanceSweep sw r).evLevels = s.evLevels ∧ (s.advanceSweep sw r).ursp = s.ursp ∧
    (s.advanceSweep sw r).alert = s.alert ∧ (s.advanceSweep sw r).tick = s.tick ∧
    (s.advanceSweep sw r).cycles = s.cycles ∧ (s.advanceSweep sw r).partState = s.partState ∧
    (s.advanceSweep sw r).wasActive = s.wasActive ∧ (s.advanceSweep sw r).fellToDefault = s.fellToDefault ∧
    (s.advanceSweep sw r).boot = s.boot ∧ (s.advanceSweep sw r).live = s.live ∧
    (s.advanceSweep sw r).setup = s.setup ∧ (s.advanceSweep sw r).releaseClaim = s.releaseClaim ∧
    (s.advanceSweep sw r).statusEntry = s.statusEntry ∧ (s.advanceSweep sw r).statusWritten = s.statusWritten ∧
    (s.advanceSweep sw r).command = s.command ∧ (s.advanceSweep sw r).commandEntry = s.commandEntry ∧
    (s.advanceSweep sw r).commandWritten = s.commandWritten ∧ (s.advanceSweep sw r).outstanding = s.outstanding ∧
    (s.advanceSweep sw r).head = s.head ∧ (s.advanceSweep sw r).responses = s.responses ∧
    (s.advanceSweep sw r).tags = s.tags ∧ (s.advanceSweep sw r).passQueue = s.passQueue ∧
    (s.advanceSweep sw r).dreq = s.dreq ∧ (s.advanceSweep sw r).windows = s.windows ∧
    (s.advanceSweep sw r).entries = s.entries ∧ (s.advanceSweep sw r).suspects = s.suspects ∧
    (s.advanceSweep sw r).sweepQueue = s.sweepQueue ∧ (s.advanceSweep sw r).intervals = s.intervals ∧
    (s.advanceSweep sw r).intervalDue = s.intervalDue ∧ (s.advanceSweep sw r).bindings = s.bindings ∧
    (s.advanceSweep sw r).chord = s.chord ∧ (s.advanceSweep sw r).levels = s.levels ∧
    (s.advanceSweep sw r).inputs = s.inputs ∧ (s.advanceSweep sw r).chordTimer = s.chordTimer ∧
    (s.advanceSweep sw r).chordFired = s.chordFired ∧ (s.advanceSweep sw r).servicePos = s.servicePos ∧
    (s.advanceSweep sw r).eventClaim = s.eventClaim ∧ (s.advanceSweep sw r).newCounts = s.newCounts ∧
    (s.advanceSweep sw r).logStyle = s.logStyle ∧ (s.advanceSweep sw r).logBase = s.logBase ∧
    (s.advanceSweep sw r).logNext = s.logNext ∧ (s.advanceSweep sw r).logHeld = s.logHeld ∧
    (s.advanceSweep sw r).logQueue = s.logQueue := by
  dsimp only [State.advanceSweep]
  (repeat' split) <;> simp

@[simp] theorem resolveItem_keeps (n : Nat) (x : Resolution) :
    (s.resolveItem n x).pending = s.pending ∧ (s.resolveItem n x).bootStage = s.bootStage ∧
    (s.resolveItem n x).resetKind = s.resetKind ∧ (s.resolveItem n x).setupSel = s.setupSel ∧
    (s.resolveItem n x).evLevels = s.evLevels ∧ (s.resolveItem n x).ursp = s.ursp ∧
    (s.resolveItem n x).alert = s.alert ∧ (s.resolveItem n x).tick = s.tick ∧
    (s.resolveItem n x).cycles = s.cycles ∧ (s.resolveItem n x).partState = s.partState ∧
    (s.resolveItem n x).wasActive = s.wasActive ∧ (s.resolveItem n x).fellToDefault = s.fellToDefault ∧
    (s.resolveItem n x).boot = s.boot ∧ (s.resolveItem n x).live = s.live ∧ (s.resolveItem n x).setup = s.setup ∧
    (s.resolveItem n x).releaseClaim = s.releaseClaim ∧ (s.resolveItem n x).statusEntry = s.statusEntry ∧
    (s.resolveItem n x).statusWritten = s.statusWritten ∧ (s.resolveItem n x).command = s.command ∧
    (s.resolveItem n x).commandEntry = s.commandEntry ∧ (s.resolveItem n x).commandWritten = s.commandWritten ∧
    (s.resolveItem n x).outstanding = s.outstanding ∧ (s.resolveItem n x).head = s.head ∧
    (s.resolveItem n x).responses = s.responses ∧ (s.resolveItem n x).tags = s.tags ∧
    (s.resolveItem n x).passQueue = s.passQueue ∧ (s.resolveItem n x).dreq = s.dreq ∧
    (s.resolveItem n x).windows = s.windows ∧ (s.resolveItem n x).entries = s.entries ∧
    (s.resolveItem n x).suspects = s.suspects ∧ (s.resolveItem n x).sweepQueue = s.sweepQueue ∧
    (s.resolveItem n x).intervals = s.intervals ∧ (s.resolveItem n x).intervalDue = s.intervalDue ∧
    (s.resolveItem n x).bindings = s.bindings ∧ (s.resolveItem n x).chord = s.chord ∧
    (s.resolveItem n x).levels = s.levels ∧ (s.resolveItem n x).inputs = s.inputs ∧
    (s.resolveItem n x).chordTimer = s.chordTimer ∧ (s.resolveItem n x).chordFired = s.chordFired ∧
    (s.resolveItem n x).servicePos = s.servicePos ∧ (s.resolveItem n x).eventClaim = s.eventClaim ∧
    (s.resolveItem n x).newCounts = s.newCounts ∧ (s.resolveItem n x).logStyle = s.logStyle ∧
    (s.resolveItem n x).logBase = s.logBase ∧ (s.resolveItem n x).logNext = s.logNext ∧
    (s.resolveItem n x).logHeld = s.logHeld ∧ (s.resolveItem n x).logQueue = s.logQueue := by
  dsimp only [State.resolveItem]
  (repeat' split) <;> simp

@[simp] theorem shadowAnswered_keeps (t : DownTag) (g : ShadowTarget) (ok : Bool) :
    (s.shadowAnswered t g ok).pending = s.pending ∧ (s.shadowAnswered t g ok).bootStage = s.bootStage ∧
    (s.shadowAnswered t g ok).resetKind = s.resetKind ∧ (s.shadowAnswered t g ok).setupSel = s.setupSel ∧
    (s.shadowAnswered t g ok).evLevels = s.evLevels ∧ (s.shadowAnswered t g ok).ursp = s.ursp ∧
    (s.shadowAnswered t g ok).alert = s.alert ∧ (s.shadowAnswered t g ok).tick = s.tick ∧
    (s.shadowAnswered t g ok).cycles = s.cycles ∧ (s.shadowAnswered t g ok).partState = s.partState ∧
    (s.shadowAnswered t g ok).wasActive = s.wasActive ∧ (s.shadowAnswered t g ok).fellToDefault = s.fellToDefault ∧
    (s.shadowAnswered t g ok).boot = s.boot ∧ (s.shadowAnswered t g ok).live = s.live ∧
    (s.shadowAnswered t g ok).setup = s.setup ∧ (s.shadowAnswered t g ok).releaseClaim = s.releaseClaim ∧
    (s.shadowAnswered t g ok).flags = s.flags ∧ (s.shadowAnswered t g ok).statusEntry = s.statusEntry ∧
    (s.shadowAnswered t g ok).statusWritten = s.statusWritten ∧ (s.shadowAnswered t g ok).command = s.command ∧
    (s.shadowAnswered t g ok).commandEntry = s.commandEntry ∧
    (s.shadowAnswered t g ok).commandWritten = s.commandWritten ∧
    (s.shadowAnswered t g ok).outstanding = s.outstanding ∧ (s.shadowAnswered t g ok).head = s.head ∧
    (s.shadowAnswered t g ok).responses = s.responses ∧ (s.shadowAnswered t g ok).tags = s.tags ∧
    (s.shadowAnswered t g ok).passQueue = s.passQueue ∧ (s.shadowAnswered t g ok).dreq = s.dreq ∧
    (s.shadowAnswered t g ok).windows = s.windows ∧ (s.shadowAnswered t g ok).entries = s.entries ∧
    (s.shadowAnswered t g ok).suspects = s.suspects ∧ (s.shadowAnswered t g ok).sweepQueue = s.sweepQueue ∧
    (s.shadowAnswered t g ok).intervals = s.intervals ∧ (s.shadowAnswered t g ok).intervalDue = s.intervalDue ∧
    (s.shadowAnswered t g ok).bindings = s.bindings ∧ (s.shadowAnswered t g ok).chord = s.chord ∧
    (s.shadowAnswered t g ok).levels = s.levels ∧ (s.shadowAnswered t g ok).inputs = s.inputs ∧
    (s.shadowAnswered t g ok).chordTimer = s.chordTimer ∧ (s.shadowAnswered t g ok).chordFired = s.chordFired ∧
    (s.shadowAnswered t g ok).servicePos = s.servicePos ∧ (s.shadowAnswered t g ok).eventClaim = s.eventClaim ∧
    (s.shadowAnswered t g ok).newCounts = s.newCounts ∧ (s.shadowAnswered t g ok).logStyle = s.logStyle ∧
    (s.shadowAnswered t g ok).logBase = s.logBase ∧ (s.shadowAnswered t g ok).logNext = s.logNext ∧
    (s.shadowAnswered t g ok).logHeld = s.logHeld ∧ (s.shadowAnswered t g ok).logQueue = s.logQueue := by
  dsimp only [State.shadowAnswered]
  (repeat' split) <;> simp

@[simp] theorem applyUpdate_keeps (h : Hold) (r : WindowRecord) (o : UpdateOrigin) (d : Line) (e : BitVec 8) (c : Line) :
    ((s.applyUpdate h r o d e c).2).pending = s.pending ∧ ((s.applyUpdate h r o d e c).2).bootStage = s.bootStage ∧
    ((s.applyUpdate h r o d e c).2).resetKind = s.resetKind ∧
    ((s.applyUpdate h r o d e c).2).setupSel = s.setupSel ∧ ((s.applyUpdate h r o d e c).2).evLevels = s.evLevels ∧
    ((s.applyUpdate h r o d e c).2).ursp = s.ursp ∧ ((s.applyUpdate h r o d e c).2).alert = s.alert ∧
    ((s.applyUpdate h r o d e c).2).tick = s.tick ∧ ((s.applyUpdate h r o d e c).2).cycles = s.cycles ∧
    ((s.applyUpdate h r o d e c).2).partState = s.partState ∧
    ((s.applyUpdate h r o d e c).2).wasActive = s.wasActive ∧
    ((s.applyUpdate h r o d e c).2).fellToDefault = s.fellToDefault ∧
    ((s.applyUpdate h r o d e c).2).boot = s.boot ∧ ((s.applyUpdate h r o d e c).2).live = s.live ∧
    ((s.applyUpdate h r o d e c).2).setup = s.setup ∧
    ((s.applyUpdate h r o d e c).2).releaseClaim = s.releaseClaim ∧
    ((s.applyUpdate h r o d e c).2).statusEntry = s.statusEntry ∧
    ((s.applyUpdate h r o d e c).2).statusWritten = s.statusWritten ∧
    ((s.applyUpdate h r o d e c).2).command = s.command ∧
    ((s.applyUpdate h r o d e c).2).commandEntry = s.commandEntry ∧
    ((s.applyUpdate h r o d e c).2).commandWritten = s.commandWritten ∧
    ((s.applyUpdate h r o d e c).2).outstanding = s.outstanding ∧ ((s.applyUpdate h r o d e c).2).head = s.head ∧
    ((s.applyUpdate h r o d e c).2).responses = s.responses ∧ ((s.applyUpdate h r o d e c).2).tags = s.tags ∧
    ((s.applyUpdate h r o d e c).2).passQueue = s.passQueue ∧ ((s.applyUpdate h r o d e c).2).dreq = s.dreq ∧
    ((s.applyUpdate h r o d e c).2).entries = s.entries ∧ ((s.applyUpdate h r o d e c).2).suspects = s.suspects ∧
    ((s.applyUpdate h r o d e c).2).sweepQueue = s.sweepQueue ∧ ((s.applyUpdate h r o d e c).2).engine = s.engine ∧
    ((s.applyUpdate h r o d e c).2).intervals = s.intervals ∧
    ((s.applyUpdate h r o d e c).2).intervalDue = s.intervalDue ∧
    ((s.applyUpdate h r o d e c).2).bindings = s.bindings ∧ ((s.applyUpdate h r o d e c).2).chord = s.chord ∧
    ((s.applyUpdate h r o d e c).2).levels = s.levels ∧ ((s.applyUpdate h r o d e c).2).inputs = s.inputs ∧
    ((s.applyUpdate h r o d e c).2).chordTimer = s.chordTimer ∧
    ((s.applyUpdate h r o d e c).2).chordFired = s.chordFired ∧
    ((s.applyUpdate h r o d e c).2).servicePos = s.servicePos ∧
    ((s.applyUpdate h r o d e c).2).eventClaim = s.eventClaim ∧
    ((s.applyUpdate h r o d e c).2).newCounts = s.newCounts ∧
    ((s.applyUpdate h r o d e c).2).logStyle = s.logStyle ∧ ((s.applyUpdate h r o d e c).2).logBase = s.logBase := by
  dsimp only [State.applyUpdate]
  (repeat' split) <;> simp

@[simp] theorem applyRead_keeps (r : WindowRecord) (t : UpTag) (c : Line) :
    ((s.applyRead r t c).2).pending = s.pending ∧ ((s.applyRead r t c).2).bootStage = s.bootStage ∧
    ((s.applyRead r t c).2).resetKind = s.resetKind ∧ ((s.applyRead r t c).2).setupSel = s.setupSel ∧
    ((s.applyRead r t c).2).evLevels = s.evLevels ∧ ((s.applyRead r t c).2).ursp = s.ursp ∧
    ((s.applyRead r t c).2).alert = s.alert ∧ ((s.applyRead r t c).2).tick = s.tick ∧
    ((s.applyRead r t c).2).cycles = s.cycles ∧ ((s.applyRead r t c).2).partState = s.partState ∧
    ((s.applyRead r t c).2).wasActive = s.wasActive ∧ ((s.applyRead r t c).2).fellToDefault = s.fellToDefault ∧
    ((s.applyRead r t c).2).boot = s.boot ∧ ((s.applyRead r t c).2).live = s.live ∧
    ((s.applyRead r t c).2).setup = s.setup ∧ ((s.applyRead r t c).2).releaseClaim = s.releaseClaim ∧
    ((s.applyRead r t c).2).flags = s.flags ∧ ((s.applyRead r t c).2).statusEntry = s.statusEntry ∧
    ((s.applyRead r t c).2).statusWritten = s.statusWritten ∧ ((s.applyRead r t c).2).command = s.command ∧
    ((s.applyRead r t c).2).commandEntry = s.commandEntry ∧
    ((s.applyRead r t c).2).commandWritten = s.commandWritten ∧ ((s.applyRead r t c).2).head = s.head ∧
    ((s.applyRead r t c).2).tags = s.tags ∧ ((s.applyRead r t c).2).passQueue = s.passQueue ∧
    ((s.applyRead r t c).2).dreq = s.dreq ∧ ((s.applyRead r t c).2).windows = s.windows ∧
    ((s.applyRead r t c).2).entries = s.entries ∧ ((s.applyRead r t c).2).suspects = s.suspects ∧
    ((s.applyRead r t c).2).sweepQueue = s.sweepQueue ∧ ((s.applyRead r t c).2).engine = s.engine ∧
    ((s.applyRead r t c).2).intervals = s.intervals ∧ ((s.applyRead r t c).2).intervalDue = s.intervalDue ∧
    ((s.applyRead r t c).2).bindings = s.bindings ∧ ((s.applyRead r t c).2).chord = s.chord ∧
    ((s.applyRead r t c).2).levels = s.levels ∧ ((s.applyRead r t c).2).inputs = s.inputs ∧
    ((s.applyRead r t c).2).chordTimer = s.chordTimer ∧ ((s.applyRead r t c).2).chordFired = s.chordFired ∧
    ((s.applyRead r t c).2).servicePos = s.servicePos ∧ ((s.applyRead r t c).2).eventClaim = s.eventClaim ∧
    ((s.applyRead r t c).2).newCounts = s.newCounts ∧ ((s.applyRead r t c).2).logStyle = s.logStyle ∧
    ((s.applyRead r t c).2).logBase = s.logBase ∧ ((s.applyRead r t c).2).logNext = s.logNext ∧
    ((s.applyRead r t c).2).logHeld = s.logHeld ∧ ((s.applyRead r t c).2).logQueue = s.logQueue := by
  simp [State.applyRead]

@[simp] theorem applySweep_keeps (r : WindowRecord) (a : SweepAction) (n : Nat) (c : Line) :
    ((s.applySweep r a n c).2).pending = s.pending ∧ ((s.applySweep r a n c).2).bootStage = s.bootStage ∧
    ((s.applySweep r a n c).2).resetKind = s.resetKind ∧ ((s.applySweep r a n c).2).setupSel = s.setupSel ∧
    ((s.applySweep r a n c).2).evLevels = s.evLevels ∧ ((s.applySweep r a n c).2).ursp = s.ursp ∧
    ((s.applySweep r a n c).2).alert = s.alert ∧ ((s.applySweep r a n c).2).tick = s.tick ∧
    ((s.applySweep r a n c).2).cycles = s.cycles ∧ ((s.applySweep r a n c).2).partState = s.partState ∧
    ((s.applySweep r a n c).2).wasActive = s.wasActive ∧
    ((s.applySweep r a n c).2).fellToDefault = s.fellToDefault ∧ ((s.applySweep r a n c).2).boot = s.boot ∧
    ((s.applySweep r a n c).2).live = s.live ∧ ((s.applySweep r a n c).2).setup = s.setup ∧
    ((s.applySweep r a n c).2).releaseClaim = s.releaseClaim ∧
    ((s.applySweep r a n c).2).statusEntry = s.statusEntry ∧
    ((s.applySweep r a n c).2).statusWritten = s.statusWritten ∧ ((s.applySweep r a n c).2).command = s.command ∧
    ((s.applySweep r a n c).2).commandEntry = s.commandEntry ∧
    ((s.applySweep r a n c).2).commandWritten = s.commandWritten ∧
    ((s.applySweep r a n c).2).outstanding = s.outstanding ∧ ((s.applySweep r a n c).2).head = s.head ∧
    ((s.applySweep r a n c).2).responses = s.responses ∧ ((s.applySweep r a n c).2).tags = s.tags ∧
    ((s.applySweep r a n c).2).passQueue = s.passQueue ∧ ((s.applySweep r a n c).2).dreq = s.dreq ∧
    ((s.applySweep r a n c).2).windows = s.windows ∧ ((s.applySweep r a n c).2).entries = s.entries ∧
    ((s.applySweep r a n c).2).suspects = s.suspects ∧ ((s.applySweep r a n c).2).sweepQueue = s.sweepQueue ∧
    ((s.applySweep r a n c).2).intervals = s.intervals ∧ ((s.applySweep r a n c).2).intervalDue = s.intervalDue ∧
    ((s.applySweep r a n c).2).bindings = s.bindings ∧ ((s.applySweep r a n c).2).chord = s.chord ∧
    ((s.applySweep r a n c).2).levels = s.levels ∧ ((s.applySweep r a n c).2).inputs = s.inputs ∧
    ((s.applySweep r a n c).2).chordTimer = s.chordTimer ∧ ((s.applySweep r a n c).2).chordFired = s.chordFired ∧
    ((s.applySweep r a n c).2).servicePos = s.servicePos ∧ ((s.applySweep r a n c).2).eventClaim = s.eventClaim ∧
    ((s.applySweep r a n c).2).newCounts = s.newCounts ∧ ((s.applySweep r a n c).2).logStyle = s.logStyle ∧
    ((s.applySweep r a n c).2).logBase = s.logBase ∧ ((s.applySweep r a n c).2).logNext = s.logNext ∧
    ((s.applySweep r a n c).2).logHeld = s.logHeld ∧ ((s.applySweep r a n c).2).logQueue = s.logQueue := by
  dsimp only [State.applySweep]
  (repeat' split) <;> simp

@[simp] theorem applyItem_keeps (h : Hold) (i : Item) (c : Line) :
    ((s.applyItem h i c).2).pending = s.pending ∧ ((s.applyItem h i c).2).bootStage = s.bootStage ∧
    ((s.applyItem h i c).2).resetKind = s.resetKind ∧ ((s.applyItem h i c).2).setupSel = s.setupSel ∧
    ((s.applyItem h i c).2).evLevels = s.evLevels ∧ ((s.applyItem h i c).2).ursp = s.ursp ∧
    ((s.applyItem h i c).2).alert = s.alert ∧ ((s.applyItem h i c).2).tick = s.tick ∧
    ((s.applyItem h i c).2).cycles = s.cycles ∧ ((s.applyItem h i c).2).partState = s.partState ∧
    ((s.applyItem h i c).2).wasActive = s.wasActive ∧ ((s.applyItem h i c).2).fellToDefault = s.fellToDefault ∧
    ((s.applyItem h i c).2).boot = s.boot ∧ ((s.applyItem h i c).2).live = s.live ∧
    ((s.applyItem h i c).2).setup = s.setup ∧ ((s.applyItem h i c).2).releaseClaim = s.releaseClaim ∧
    ((s.applyItem h i c).2).statusEntry = s.statusEntry ∧ ((s.applyItem h i c).2).statusWritten = s.statusWritten ∧
    ((s.applyItem h i c).2).command = s.command ∧ ((s.applyItem h i c).2).commandEntry = s.commandEntry ∧
    ((s.applyItem h i c).2).commandWritten = s.commandWritten ∧ ((s.applyItem h i c).2).head = s.head ∧
    ((s.applyItem h i c).2).tags = s.tags ∧ ((s.applyItem h i c).2).passQueue = s.passQueue ∧
    ((s.applyItem h i c).2).dreq = s.dreq ∧ ((s.applyItem h i c).2).entries = s.entries ∧
    ((s.applyItem h i c).2).suspects = s.suspects ∧ ((s.applyItem h i c).2).sweepQueue = s.sweepQueue ∧
    ((s.applyItem h i c).2).intervals = s.intervals ∧ ((s.applyItem h i c).2).intervalDue = s.intervalDue ∧
    ((s.applyItem h i c).2).bindings = s.bindings ∧ ((s.applyItem h i c).2).chord = s.chord ∧
    ((s.applyItem h i c).2).levels = s.levels ∧ ((s.applyItem h i c).2).inputs = s.inputs ∧
    ((s.applyItem h i c).2).chordTimer = s.chordTimer ∧ ((s.applyItem h i c).2).chordFired = s.chordFired ∧
    ((s.applyItem h i c).2).servicePos = s.servicePos ∧ ((s.applyItem h i c).2).eventClaim = s.eventClaim ∧
    ((s.applyItem h i c).2).newCounts = s.newCounts ∧ ((s.applyItem h i c).2).logStyle = s.logStyle ∧
    ((s.applyItem h i c).2).logBase = s.logBase := by
  dsimp only [State.applyItem]
  (repeat' split) <;> simp

@[simp] theorem applyItems_keeps (h : Hold) (is : List Item) (c : Line) :
    ((s.applyItems h is c).2).pending = s.pending ∧ ((s.applyItems h is c).2).bootStage = s.bootStage ∧
    ((s.applyItems h is c).2).resetKind = s.resetKind ∧ ((s.applyItems h is c).2).setupSel = s.setupSel ∧
    ((s.applyItems h is c).2).evLevels = s.evLevels ∧ ((s.applyItems h is c).2).ursp = s.ursp ∧
    ((s.applyItems h is c).2).alert = s.alert ∧ ((s.applyItems h is c).2).tick = s.tick ∧
    ((s.applyItems h is c).2).cycles = s.cycles ∧ ((s.applyItems h is c).2).partState = s.partState ∧
    ((s.applyItems h is c).2).wasActive = s.wasActive ∧ ((s.applyItems h is c).2).fellToDefault = s.fellToDefault ∧
    ((s.applyItems h is c).2).boot = s.boot ∧ ((s.applyItems h is c).2).live = s.live ∧
    ((s.applyItems h is c).2).setup = s.setup ∧ ((s.applyItems h is c).2).releaseClaim = s.releaseClaim ∧
    ((s.applyItems h is c).2).statusEntry = s.statusEntry ∧
    ((s.applyItems h is c).2).statusWritten = s.statusWritten ∧ ((s.applyItems h is c).2).command = s.command ∧
    ((s.applyItems h is c).2).commandEntry = s.commandEntry ∧
    ((s.applyItems h is c).2).commandWritten = s.commandWritten ∧ ((s.applyItems h is c).2).head = s.head ∧
    ((s.applyItems h is c).2).tags = s.tags ∧ ((s.applyItems h is c).2).passQueue = s.passQueue ∧
    ((s.applyItems h is c).2).dreq = s.dreq ∧ ((s.applyItems h is c).2).entries = s.entries ∧
    ((s.applyItems h is c).2).suspects = s.suspects ∧ ((s.applyItems h is c).2).sweepQueue = s.sweepQueue ∧
    ((s.applyItems h is c).2).intervals = s.intervals ∧ ((s.applyItems h is c).2).intervalDue = s.intervalDue ∧
    ((s.applyItems h is c).2).bindings = s.bindings ∧ ((s.applyItems h is c).2).chord = s.chord ∧
    ((s.applyItems h is c).2).levels = s.levels ∧ ((s.applyItems h is c).2).inputs = s.inputs ∧
    ((s.applyItems h is c).2).chordTimer = s.chordTimer ∧ ((s.applyItems h is c).2).chordFired = s.chordFired ∧
    ((s.applyItems h is c).2).servicePos = s.servicePos ∧ ((s.applyItems h is c).2).eventClaim = s.eventClaim ∧
    ((s.applyItems h is c).2).newCounts = s.newCounts ∧ ((s.applyItems h is c).2).logStyle = s.logStyle ∧
    ((s.applyItems h is c).2).logBase = s.logBase := by
  unfold State.applyItems
  induction is generalizing s c with
  | nil => simp
  | cons x xs ih => simpa using ih (s.applyItem h x c).2 (s.applyItem h x c).1

@[simp] theorem applyAt_keeps (i : Fin 12) (x : Item) :
    (s.applyAt i x).pending = s.pending ∧ (s.applyAt i x).bootStage = s.bootStage ∧
    (s.applyAt i x).resetKind = s.resetKind ∧ (s.applyAt i x).setupSel = s.setupSel ∧
    (s.applyAt i x).evLevels = s.evLevels ∧ (s.applyAt i x).ursp = s.ursp ∧ (s.applyAt i x).alert = s.alert ∧
    (s.applyAt i x).tick = s.tick ∧ (s.applyAt i x).cycles = s.cycles ∧ (s.applyAt i x).partState = s.partState ∧
    (s.applyAt i x).wasActive = s.wasActive ∧ (s.applyAt i x).fellToDefault = s.fellToDefault ∧
    (s.applyAt i x).boot = s.boot ∧ (s.applyAt i x).live = s.live ∧ (s.applyAt i x).setup = s.setup ∧
    (s.applyAt i x).releaseClaim = s.releaseClaim ∧ (s.applyAt i x).statusEntry = s.statusEntry ∧
    (s.applyAt i x).statusWritten = s.statusWritten ∧ (s.applyAt i x).command = s.command ∧
    (s.applyAt i x).commandEntry = s.commandEntry ∧ (s.applyAt i x).commandWritten = s.commandWritten ∧
    (s.applyAt i x).head = s.head ∧ (s.applyAt i x).tags = s.tags ∧ (s.applyAt i x).passQueue = s.passQueue ∧
    (s.applyAt i x).dreq = s.dreq ∧ (s.applyAt i x).suspects = s.suspects ∧
    (s.applyAt i x).sweepQueue = s.sweepQueue ∧ (s.applyAt i x).intervals = s.intervals ∧
    (s.applyAt i x).intervalDue = s.intervalDue ∧ (s.applyAt i x).bindings = s.bindings ∧
    (s.applyAt i x).chord = s.chord ∧ (s.applyAt i x).levels = s.levels ∧ (s.applyAt i x).inputs = s.inputs ∧
    (s.applyAt i x).chordTimer = s.chordTimer ∧ (s.applyAt i x).chordFired = s.chordFired ∧
    (s.applyAt i x).servicePos = s.servicePos ∧ (s.applyAt i x).eventClaim = s.eventClaim ∧
    (s.applyAt i x).newCounts = s.newCounts ∧ (s.applyAt i x).logStyle = s.logStyle ∧
    (s.applyAt i x).logBase = s.logBase := by
  dsimp only [State.applyAt]
  (repeat' split) <;> simp

@[simp] theorem joinQueue_keeps (i : Fin 12) (x : Item) :
    (s.joinQueue i x).pending = s.pending ∧ (s.joinQueue i x).bootStage = s.bootStage ∧
    (s.joinQueue i x).resetKind = s.resetKind ∧ (s.joinQueue i x).setupSel = s.setupSel ∧
    (s.joinQueue i x).evLevels = s.evLevels ∧ (s.joinQueue i x).ursp = s.ursp ∧ (s.joinQueue i x).alert = s.alert ∧
    (s.joinQueue i x).tick = s.tick ∧ (s.joinQueue i x).cycles = s.cycles ∧
    (s.joinQueue i x).partState = s.partState ∧ (s.joinQueue i x).wasActive = s.wasActive ∧
    (s.joinQueue i x).fellToDefault = s.fellToDefault ∧ (s.joinQueue i x).boot = s.boot ∧
    (s.joinQueue i x).live = s.live ∧ (s.joinQueue i x).setup = s.setup ∧
    (s.joinQueue i x).releaseClaim = s.releaseClaim ∧ (s.joinQueue i x).flags = s.flags ∧
    (s.joinQueue i x).statusEntry = s.statusEntry ∧ (s.joinQueue i x).statusWritten = s.statusWritten ∧
    (s.joinQueue i x).command = s.command ∧ (s.joinQueue i x).commandEntry = s.commandEntry ∧
    (s.joinQueue i x).commandWritten = s.commandWritten ∧ (s.joinQueue i x).outstanding = s.outstanding ∧
    (s.joinQueue i x).head = s.head ∧ (s.joinQueue i x).responses = s.responses ∧ (s.joinQueue i x).tags = s.tags ∧
    (s.joinQueue i x).passQueue = s.passQueue ∧ (s.joinQueue i x).dreq = s.dreq ∧
    (s.joinQueue i x).windows = s.windows ∧ (s.joinQueue i x).suspects = s.suspects ∧
    (s.joinQueue i x).sweepQueue = s.sweepQueue ∧ (s.joinQueue i x).engine = s.engine ∧
    (s.joinQueue i x).intervals = s.intervals ∧ (s.joinQueue i x).intervalDue = s.intervalDue ∧
    (s.joinQueue i x).bindings = s.bindings ∧ (s.joinQueue i x).chord = s.chord ∧
    (s.joinQueue i x).levels = s.levels ∧ (s.joinQueue i x).inputs = s.inputs ∧
    (s.joinQueue i x).chordTimer = s.chordTimer ∧ (s.joinQueue i x).chordFired = s.chordFired ∧
    (s.joinQueue i x).servicePos = s.servicePos ∧ (s.joinQueue i x).eventClaim = s.eventClaim ∧
    (s.joinQueue i x).newCounts = s.newCounts ∧ (s.joinQueue i x).logStyle = s.logStyle ∧
    (s.joinQueue i x).logBase = s.logBase ∧ (s.joinQueue i x).logNext = s.logNext ∧
    (s.joinQueue i x).logHeld = s.logHeld ∧ (s.joinQueue i x).logQueue = s.logQueue := by
  dsimp only [State.joinQueue]
  (repeat' split) <;> simp

@[simp] theorem openFetch_keeps (i : Fin 12) (h : Hold) (x : Item) :
    (s.openFetch i h x).pending = s.pending ∧ (s.openFetch i h x).bootStage = s.bootStage ∧
    (s.openFetch i h x).resetKind = s.resetKind ∧ (s.openFetch i h x).setupSel = s.setupSel ∧
    (s.openFetch i h x).evLevels = s.evLevels ∧ (s.openFetch i h x).ursp = s.ursp ∧
    (s.openFetch i h x).alert = s.alert ∧ (s.openFetch i h x).tick = s.tick ∧
    (s.openFetch i h x).cycles = s.cycles ∧ (s.openFetch i h x).partState = s.partState ∧
    (s.openFetch i h x).wasActive = s.wasActive ∧ (s.openFetch i h x).fellToDefault = s.fellToDefault ∧
    (s.openFetch i h x).boot = s.boot ∧ (s.openFetch i h x).live = s.live ∧ (s.openFetch i h x).setup = s.setup ∧
    (s.openFetch i h x).releaseClaim = s.releaseClaim ∧ (s.openFetch i h x).flags = s.flags ∧
    (s.openFetch i h x).statusEntry = s.statusEntry ∧ (s.openFetch i h x).statusWritten = s.statusWritten ∧
    (s.openFetch i h x).command = s.command ∧ (s.openFetch i h x).commandEntry = s.commandEntry ∧
    (s.openFetch i h x).commandWritten = s.commandWritten ∧ (s.openFetch i h x).outstanding = s.outstanding ∧
    (s.openFetch i h x).head = s.head ∧ (s.openFetch i h x).responses = s.responses ∧
    (s.openFetch i h x).tags = s.tags ∧ (s.openFetch i h x).passQueue = s.passQueue ∧
    (s.openFetch i h x).dreq = s.dreq ∧ (s.openFetch i h x).windows = s.windows ∧
    (s.openFetch i h x).suspects = s.suspects ∧ (s.openFetch i h x).sweepQueue = s.sweepQueue ∧
    (s.openFetch i h x).engine = s.engine ∧ (s.openFetch i h x).intervals = s.intervals ∧
    (s.openFetch i h x).intervalDue = s.intervalDue ∧ (s.openFetch i h x).bindings = s.bindings ∧
    (s.openFetch i h x).chord = s.chord ∧ (s.openFetch i h x).levels = s.levels ∧
    (s.openFetch i h x).inputs = s.inputs ∧ (s.openFetch i h x).chordTimer = s.chordTimer ∧
    (s.openFetch i h x).chordFired = s.chordFired ∧ (s.openFetch i h x).servicePos = s.servicePos ∧
    (s.openFetch i h x).eventClaim = s.eventClaim ∧ (s.openFetch i h x).newCounts = s.newCounts ∧
    (s.openFetch i h x).logStyle = s.logStyle ∧ (s.openFetch i h x).logBase = s.logBase ∧
    (s.openFetch i h x).logNext = s.logNext ∧ (s.openFetch i h x).logHeld = s.logHeld ∧
    (s.openFetch i h x).logQueue = s.logQueue := by
  simp [State.openFetch]

@[simp] theorem openCleared_keeps (i : Fin 12) (h : Hold) (r : WindowRecord) (x : Item) (m : Bool) :
    (s.openCleared i h r x m).pending = s.pending ∧ (s.openCleared i h r x m).bootStage = s.bootStage ∧
    (s.openCleared i h r x m).resetKind = s.resetKind ∧ (s.openCleared i h r x m).setupSel = s.setupSel ∧
    (s.openCleared i h r x m).evLevels = s.evLevels ∧ (s.openCleared i h r x m).ursp = s.ursp ∧
    (s.openCleared i h r x m).alert = s.alert ∧ (s.openCleared i h r x m).tick = s.tick ∧
    (s.openCleared i h r x m).cycles = s.cycles ∧ (s.openCleared i h r x m).partState = s.partState ∧
    (s.openCleared i h r x m).wasActive = s.wasActive ∧ (s.openCleared i h r x m).fellToDefault = s.fellToDefault ∧
    (s.openCleared i h r x m).boot = s.boot ∧ (s.openCleared i h r x m).live = s.live ∧
    (s.openCleared i h r x m).setup = s.setup ∧ (s.openCleared i h r x m).releaseClaim = s.releaseClaim ∧
    (s.openCleared i h r x m).statusEntry = s.statusEntry ∧
    (s.openCleared i h r x m).statusWritten = s.statusWritten ∧ (s.openCleared i h r x m).command = s.command ∧
    (s.openCleared i h r x m).commandEntry = s.commandEntry ∧
    (s.openCleared i h r x m).commandWritten = s.commandWritten ∧ (s.openCleared i h r x m).head = s.head ∧
    (s.openCleared i h r x m).tags = s.tags ∧ (s.openCleared i h r x m).passQueue = s.passQueue ∧
    (s.openCleared i h r x m).dreq = s.dreq ∧ (s.openCleared i h r x m).sweepQueue = s.sweepQueue ∧
    (s.openCleared i h r x m).intervals = s.intervals ∧ (s.openCleared i h r x m).intervalDue = s.intervalDue ∧
    (s.openCleared i h r x m).bindings = s.bindings ∧ (s.openCleared i h r x m).chord = s.chord ∧
    (s.openCleared i h r x m).levels = s.levels ∧ (s.openCleared i h r x m).inputs = s.inputs ∧
    (s.openCleared i h r x m).chordTimer = s.chordTimer ∧ (s.openCleared i h r x m).chordFired = s.chordFired ∧
    (s.openCleared i h r x m).servicePos = s.servicePos ∧ (s.openCleared i h r x m).eventClaim = s.eventClaim ∧
    (s.openCleared i h r x m).newCounts = s.newCounts ∧ (s.openCleared i h r x m).logStyle = s.logStyle ∧
    (s.openCleared i h r x m).logBase = s.logBase := by
  simp [State.openCleared]

@[simp] theorem accept_keeps (h : Hold) (x : Item) :
    (s.accept h x).pending = s.pending ∧ (s.accept h x).bootStage = s.bootStage ∧
    (s.accept h x).resetKind = s.resetKind ∧ (s.accept h x).setupSel = s.setupSel ∧
    (s.accept h x).evLevels = s.evLevels ∧ (s.accept h x).ursp = s.ursp ∧ (s.accept h x).alert = s.alert ∧
    (s.accept h x).tick = s.tick ∧ (s.accept h x).cycles = s.cycles ∧ (s.accept h x).partState = s.partState ∧
    (s.accept h x).wasActive = s.wasActive ∧ (s.accept h x).fellToDefault = s.fellToDefault ∧
    (s.accept h x).boot = s.boot ∧ (s.accept h x).live = s.live ∧ (s.accept h x).setup = s.setup ∧
    (s.accept h x).releaseClaim = s.releaseClaim ∧ (s.accept h x).statusEntry = s.statusEntry ∧
    (s.accept h x).statusWritten = s.statusWritten ∧ (s.accept h x).command = s.command ∧
    (s.accept h x).commandEntry = s.commandEntry ∧ (s.accept h x).commandWritten = s.commandWritten ∧
    (s.accept h x).head = s.head ∧ (s.accept h x).tags = s.tags ∧ (s.accept h x).passQueue = s.passQueue ∧
    (s.accept h x).dreq = s.dreq ∧ (s.accept h x).suspects = s.suspects ∧ (s.accept h x).sweepQueue = s.sweepQueue ∧
    (s.accept h x).intervals = s.intervals ∧ (s.accept h x).intervalDue = s.intervalDue ∧
    (s.accept h x).bindings = s.bindings ∧ (s.accept h x).chord = s.chord ∧ (s.accept h x).levels = s.levels ∧
    (s.accept h x).inputs = s.inputs ∧ (s.accept h x).chordTimer = s.chordTimer ∧
    (s.accept h x).chordFired = s.chordFired ∧ (s.accept h x).servicePos = s.servicePos ∧
    (s.accept h x).eventClaim = s.eventClaim ∧ (s.accept h x).newCounts = s.newCounts ∧
    (s.accept h x).logStyle = s.logStyle ∧ (s.accept h x).logBase = s.logBase := by
  dsimp only [State.accept]
  (repeat' split) <;> simp

@[simp] theorem fetchComplete_keeps (i : Fin 12) (h : Hold) (q : List Item) (r : WindowRecord) (d : Line) :
    (s.fetchComplete i h q r d).pending = s.pending ∧ (s.fetchComplete i h q r d).bootStage = s.bootStage ∧
    (s.fetchComplete i h q r d).resetKind = s.resetKind ∧ (s.fetchComplete i h q r d).setupSel = s.setupSel ∧
    (s.fetchComplete i h q r d).evLevels = s.evLevels ∧ (s.fetchComplete i h q r d).ursp = s.ursp ∧
    (s.fetchComplete i h q r d).alert = s.alert ∧ (s.fetchComplete i h q r d).tick = s.tick ∧
    (s.fetchComplete i h q r d).cycles = s.cycles ∧ (s.fetchComplete i h q r d).partState = s.partState ∧
    (s.fetchComplete i h q r d).wasActive = s.wasActive ∧
    (s.fetchComplete i h q r d).fellToDefault = s.fellToDefault ∧ (s.fetchComplete i h q r d).boot = s.boot ∧
    (s.fetchComplete i h q r d).live = s.live ∧ (s.fetchComplete i h q r d).setup = s.setup ∧
    (s.fetchComplete i h q r d).releaseClaim = s.releaseClaim ∧
    (s.fetchComplete i h q r d).statusEntry = s.statusEntry ∧
    (s.fetchComplete i h q r d).statusWritten = s.statusWritten ∧ (s.fetchComplete i h q r d).command = s.command ∧
    (s.fetchComplete i h q r d).commandEntry = s.commandEntry ∧
    (s.fetchComplete i h q r d).commandWritten = s.commandWritten ∧ (s.fetchComplete i h q r d).head = s.head ∧
    (s.fetchComplete i h q r d).tags = s.tags ∧ (s.fetchComplete i h q r d).passQueue = s.passQueue ∧
    (s.fetchComplete i h q r d).dreq = s.dreq ∧ (s.fetchComplete i h q r d).suspects = s.suspects ∧
    (s.fetchComplete i h q r d).sweepQueue = s.sweepQueue ∧ (s.fetchComplete i h q r d).intervals = s.intervals ∧
    (s.fetchComplete i h q r d).intervalDue = s.intervalDue ∧ (s.fetchComplete i h q r d).bindings = s.bindings ∧
    (s.fetchComplete i h q r d).chord = s.chord ∧ (s.fetchComplete i h q r d).levels = s.levels ∧
    (s.fetchComplete i h q r d).inputs = s.inputs ∧ (s.fetchComplete i h q r d).chordTimer = s.chordTimer ∧
    (s.fetchComplete i h q r d).chordFired = s.chordFired ∧ (s.fetchComplete i h q r d).servicePos = s.servicePos ∧
    (s.fetchComplete i h q r d).eventClaim = s.eventClaim ∧ (s.fetchComplete i h q r d).newCounts = s.newCounts ∧
    (s.fetchComplete i h q r d).logStyle = s.logStyle ∧ (s.fetchComplete i h q r d).logBase = s.logBase := by
  dsimp only [State.fetchComplete]
  (repeat' split) <;> simp

@[simp] theorem disposeItem_keeps (x : Item) :
    (s.disposeItem x).pending = s.pending ∧ (s.disposeItem x).bootStage = s.bootStage ∧
    (s.disposeItem x).resetKind = s.resetKind ∧ (s.disposeItem x).setupSel = s.setupSel ∧
    (s.disposeItem x).evLevels = s.evLevels ∧ (s.disposeItem x).ursp = s.ursp ∧ (s.disposeItem x).alert = s.alert ∧
    (s.disposeItem x).tick = s.tick ∧ (s.disposeItem x).cycles = s.cycles ∧
    (s.disposeItem x).partState = s.partState ∧ (s.disposeItem x).wasActive = s.wasActive ∧
    (s.disposeItem x).fellToDefault = s.fellToDefault ∧ (s.disposeItem x).boot = s.boot ∧
    (s.disposeItem x).live = s.live ∧ (s.disposeItem x).setup = s.setup ∧
    (s.disposeItem x).releaseClaim = s.releaseClaim ∧ (s.disposeItem x).statusEntry = s.statusEntry ∧
    (s.disposeItem x).statusWritten = s.statusWritten ∧ (s.disposeItem x).command = s.command ∧
    (s.disposeItem x).commandEntry = s.commandEntry ∧ (s.disposeItem x).commandWritten = s.commandWritten ∧
    (s.disposeItem x).head = s.head ∧ (s.disposeItem x).tags = s.tags ∧ (s.disposeItem x).passQueue = s.passQueue ∧
    (s.disposeItem x).dreq = s.dreq ∧ (s.disposeItem x).windows = s.windows ∧
    (s.disposeItem x).entries = s.entries ∧ (s.disposeItem x).suspects = s.suspects ∧
    (s.disposeItem x).sweepQueue = s.sweepQueue ∧ (s.disposeItem x).intervals = s.intervals ∧
    (s.disposeItem x).intervalDue = s.intervalDue ∧ (s.disposeItem x).bindings = s.bindings ∧
    (s.disposeItem x).chord = s.chord ∧ (s.disposeItem x).levels = s.levels ∧ (s.disposeItem x).inputs = s.inputs ∧
    (s.disposeItem x).chordTimer = s.chordTimer ∧ (s.disposeItem x).chordFired = s.chordFired ∧
    (s.disposeItem x).servicePos = s.servicePos ∧ (s.disposeItem x).eventClaim = s.eventClaim ∧
    (s.disposeItem x).newCounts = s.newCounts ∧ (s.disposeItem x).logStyle = s.logStyle ∧
    (s.disposeItem x).logBase = s.logBase ∧ (s.disposeItem x).logNext = s.logNext ∧
    (s.disposeItem x).logHeld = s.logHeld ∧ (s.disposeItem x).logQueue = s.logQueue := by
  dsimp only [State.disposeItem]
  (repeat' split) <;> simp

@[simp] theorem foldl_disposeItem_keeps (q : List Item) :
    (q.foldl State.disposeItem s).pending = s.pending ∧ (q.foldl State.disposeItem s).bootStage = s.bootStage ∧
    (q.foldl State.disposeItem s).resetKind = s.resetKind ∧ (q.foldl State.disposeItem s).setupSel = s.setupSel ∧
    (q.foldl State.disposeItem s).evLevels = s.evLevels ∧ (q.foldl State.disposeItem s).ursp = s.ursp ∧
    (q.foldl State.disposeItem s).alert = s.alert ∧ (q.foldl State.disposeItem s).tick = s.tick ∧
    (q.foldl State.disposeItem s).cycles = s.cycles ∧ (q.foldl State.disposeItem s).partState = s.partState ∧
    (q.foldl State.disposeItem s).wasActive = s.wasActive ∧
    (q.foldl State.disposeItem s).fellToDefault = s.fellToDefault ∧ (q.foldl State.disposeItem s).boot = s.boot ∧
    (q.foldl State.disposeItem s).live = s.live ∧ (q.foldl State.disposeItem s).setup = s.setup ∧
    (q.foldl State.disposeItem s).releaseClaim = s.releaseClaim ∧
    (q.foldl State.disposeItem s).statusEntry = s.statusEntry ∧
    (q.foldl State.disposeItem s).statusWritten = s.statusWritten ∧
    (q.foldl State.disposeItem s).command = s.command ∧
    (q.foldl State.disposeItem s).commandEntry = s.commandEntry ∧
    (q.foldl State.disposeItem s).commandWritten = s.commandWritten ∧ (q.foldl State.disposeItem s).head = s.head ∧
    (q.foldl State.disposeItem s).tags = s.tags ∧ (q.foldl State.disposeItem s).passQueue = s.passQueue ∧
    (q.foldl State.disposeItem s).dreq = s.dreq ∧ (q.foldl State.disposeItem s).windows = s.windows ∧
    (q.foldl State.disposeItem s).entries = s.entries ∧ (q.foldl State.disposeItem s).suspects = s.suspects ∧
    (q.foldl State.disposeItem s).sweepQueue = s.sweepQueue ∧
    (q.foldl State.disposeItem s).intervals = s.intervals ∧
    (q.foldl State.disposeItem s).intervalDue = s.intervalDue ∧
    (q.foldl State.disposeItem s).bindings = s.bindings ∧ (q.foldl State.disposeItem s).chord = s.chord ∧
    (q.foldl State.disposeItem s).levels = s.levels ∧ (q.foldl State.disposeItem s).inputs = s.inputs ∧
    (q.foldl State.disposeItem s).chordTimer = s.chordTimer ∧
    (q.foldl State.disposeItem s).chordFired = s.chordFired ∧
    (q.foldl State.disposeItem s).servicePos = s.servicePos ∧
    (q.foldl State.disposeItem s).eventClaim = s.eventClaim ∧
    (q.foldl State.disposeItem s).newCounts = s.newCounts ∧ (q.foldl State.disposeItem s).logStyle = s.logStyle ∧
    (q.foldl State.disposeItem s).logBase = s.logBase ∧ (q.foldl State.disposeItem s).logNext = s.logNext ∧
    (q.foldl State.disposeItem s).logHeld = s.logHeld ∧ (q.foldl State.disposeItem s).logQueue = s.logQueue := by
  induction q generalizing s with
  | nil => simp
  | cons x xs ih => simp [ih]

@[simp] theorem listSuspect_keeps (h : Hold) :
    (s.listSuspect h).pending = s.pending ∧ (s.listSuspect h).bootStage = s.bootStage ∧
    (s.listSuspect h).resetKind = s.resetKind ∧ (s.listSuspect h).setupSel = s.setupSel ∧
    (s.listSuspect h).evLevels = s.evLevels ∧ (s.listSuspect h).ursp = s.ursp ∧ (s.listSuspect h).alert = s.alert ∧
    (s.listSuspect h).tick = s.tick ∧ (s.listSuspect h).cycles = s.cycles ∧
    (s.listSuspect h).partState = s.partState ∧ (s.listSuspect h).wasActive = s.wasActive ∧
    (s.listSuspect h).fellToDefault = s.fellToDefault ∧ (s.listSuspect h).boot = s.boot ∧
    (s.listSuspect h).live = s.live ∧ (s.listSuspect h).setup = s.setup ∧
    (s.listSuspect h).releaseClaim = s.releaseClaim ∧ (s.listSuspect h).statusEntry = s.statusEntry ∧
    (s.listSuspect h).statusWritten = s.statusWritten ∧ (s.listSuspect h).command = s.command ∧
    (s.listSuspect h).commandEntry = s.commandEntry ∧ (s.listSuspect h).commandWritten = s.commandWritten ∧
    (s.listSuspect h).outstanding = s.outstanding ∧ (s.listSuspect h).head = s.head ∧
    (s.listSuspect h).responses = s.responses ∧ (s.listSuspect h).tags = s.tags ∧
    (s.listSuspect h).passQueue = s.passQueue ∧ (s.listSuspect h).dreq = s.dreq ∧
    (s.listSuspect h).windows = s.windows ∧ (s.listSuspect h).entries = s.entries ∧
    (s.listSuspect h).sweepQueue = s.sweepQueue ∧ (s.listSuspect h).engine = s.engine ∧
    (s.listSuspect h).intervals = s.intervals ∧ (s.listSuspect h).intervalDue = s.intervalDue ∧
    (s.listSuspect h).bindings = s.bindings ∧ (s.listSuspect h).chord = s.chord ∧
    (s.listSuspect h).levels = s.levels ∧ (s.listSuspect h).inputs = s.inputs ∧
    (s.listSuspect h).chordTimer = s.chordTimer ∧ (s.listSuspect h).chordFired = s.chordFired ∧
    (s.listSuspect h).servicePos = s.servicePos ∧ (s.listSuspect h).eventClaim = s.eventClaim ∧
    (s.listSuspect h).newCounts = s.newCounts ∧ (s.listSuspect h).logStyle = s.logStyle ∧
    (s.listSuspect h).logBase = s.logBase := by
  dsimp only [State.listSuspect]
  (repeat' split) <;> simp

@[simp] theorem fetchFault_keeps (i : Fin 12) (h : Hold) (q : List Item) (c : Cause) :
    (s.fetchFault i h q c).pending = s.pending ∧ (s.fetchFault i h q c).bootStage = s.bootStage ∧
    (s.fetchFault i h q c).resetKind = s.resetKind ∧ (s.fetchFault i h q c).setupSel = s.setupSel ∧
    (s.fetchFault i h q c).evLevels = s.evLevels ∧ (s.fetchFault i h q c).ursp = s.ursp ∧
    (s.fetchFault i h q c).alert = s.alert ∧ (s.fetchFault i h q c).tick = s.tick ∧
    (s.fetchFault i h q c).cycles = s.cycles ∧ (s.fetchFault i h q c).partState = s.partState ∧
    (s.fetchFault i h q c).wasActive = s.wasActive ∧ (s.fetchFault i h q c).fellToDefault = s.fellToDefault ∧
    (s.fetchFault i h q c).boot = s.boot ∧ (s.fetchFault i h q c).live = s.live ∧
    (s.fetchFault i h q c).setup = s.setup ∧ (s.fetchFault i h q c).releaseClaim = s.releaseClaim ∧
    (s.fetchFault i h q c).statusEntry = s.statusEntry ∧ (s.fetchFault i h q c).statusWritten = s.statusWritten ∧
    (s.fetchFault i h q c).command = s.command ∧ (s.fetchFault i h q c).commandEntry = s.commandEntry ∧
    (s.fetchFault i h q c).commandWritten = s.commandWritten ∧ (s.fetchFault i h q c).head = s.head ∧
    (s.fetchFault i h q c).tags = s.tags ∧ (s.fetchFault i h q c).passQueue = s.passQueue ∧
    (s.fetchFault i h q c).dreq = s.dreq ∧ (s.fetchFault i h q c).windows = s.windows ∧
    (s.fetchFault i h q c).sweepQueue = s.sweepQueue ∧ (s.fetchFault i h q c).intervals = s.intervals ∧
    (s.fetchFault i h q c).intervalDue = s.intervalDue ∧ (s.fetchFault i h q c).bindings = s.bindings ∧
    (s.fetchFault i h q c).chord = s.chord ∧ (s.fetchFault i h q c).levels = s.levels ∧
    (s.fetchFault i h q c).inputs = s.inputs ∧ (s.fetchFault i h q c).chordTimer = s.chordTimer ∧
    (s.fetchFault i h q c).chordFired = s.chordFired ∧ (s.fetchFault i h q c).servicePos = s.servicePos ∧
    (s.fetchFault i h q c).eventClaim = s.eventClaim ∧ (s.fetchFault i h q c).newCounts = s.newCounts ∧
    (s.fetchFault i h q c).logStyle = s.logStyle ∧ (s.fetchFault i h q c).logBase = s.logBase := by
  dsimp only [State.fetchFault]
  (repeat' split) <;> simp

@[simp] theorem fetchEnded_keeps (i : Fin 12) (o : Outcome) :
    (s.fetchEnded i o).pending = s.pending ∧ (s.fetchEnded i o).bootStage = s.bootStage ∧
    (s.fetchEnded i o).resetKind = s.resetKind ∧ (s.fetchEnded i o).setupSel = s.setupSel ∧
    (s.fetchEnded i o).evLevels = s.evLevels ∧ (s.fetchEnded i o).ursp = s.ursp ∧
    (s.fetchEnded i o).alert = s.alert ∧ (s.fetchEnded i o).tick = s.tick ∧ (s.fetchEnded i o).cycles = s.cycles ∧
    (s.fetchEnded i o).partState = s.partState ∧ (s.fetchEnded i o).wasActive = s.wasActive ∧
    (s.fetchEnded i o).fellToDefault = s.fellToDefault ∧ (s.fetchEnded i o).boot = s.boot ∧
    (s.fetchEnded i o).live = s.live ∧ (s.fetchEnded i o).setup = s.setup ∧
    (s.fetchEnded i o).releaseClaim = s.releaseClaim ∧ (s.fetchEnded i o).statusEntry = s.statusEntry ∧
    (s.fetchEnded i o).statusWritten = s.statusWritten ∧ (s.fetchEnded i o).command = s.command ∧
    (s.fetchEnded i o).commandEntry = s.commandEntry ∧ (s.fetchEnded i o).commandWritten = s.commandWritten ∧
    (s.fetchEnded i o).head = s.head ∧ (s.fetchEnded i o).tags = s.tags ∧
    (s.fetchEnded i o).passQueue = s.passQueue ∧ (s.fetchEnded i o).dreq = s.dreq ∧
    (s.fetchEnded i o).sweepQueue = s.sweepQueue ∧ (s.fetchEnded i o).intervals = s.intervals ∧
    (s.fetchEnded i o).intervalDue = s.intervalDue ∧ (s.fetchEnded i o).bindings = s.bindings ∧
    (s.fetchEnded i o).chord = s.chord ∧ (s.fetchEnded i o).levels = s.levels ∧
    (s.fetchEnded i o).inputs = s.inputs ∧ (s.fetchEnded i o).chordTimer = s.chordTimer ∧
    (s.fetchEnded i o).chordFired = s.chordFired ∧ (s.fetchEnded i o).servicePos = s.servicePos ∧
    (s.fetchEnded i o).eventClaim = s.eventClaim ∧ (s.fetchEnded i o).newCounts = s.newCounts ∧
    (s.fetchEnded i o).logStyle = s.logStyle ∧ (s.fetchEnded i o).logBase = s.logBase := by
  dsimp only [State.fetchEnded]
  (repeat' split) <;> simp

@[simp] theorem writebackFault_keeps (w : Option WindowNo) (l : LineAddr) (c : Cause) :
    (s.writebackFault w l c).pending = s.pending ∧ (s.writebackFault w l c).bootStage = s.bootStage ∧
    (s.writebackFault w l c).resetKind = s.resetKind ∧ (s.writebackFault w l c).setupSel = s.setupSel ∧
    (s.writebackFault w l c).evLevels = s.evLevels ∧ (s.writebackFault w l c).ursp = s.ursp ∧
    (s.writebackFault w l c).alert = s.alert ∧ (s.writebackFault w l c).tick = s.tick ∧
    (s.writebackFault w l c).cycles = s.cycles ∧ (s.writebackFault w l c).partState = s.partState ∧
    (s.writebackFault w l c).wasActive = s.wasActive ∧ (s.writebackFault w l c).fellToDefault = s.fellToDefault ∧
    (s.writebackFault w l c).boot = s.boot ∧ (s.writebackFault w l c).live = s.live ∧
    (s.writebackFault w l c).setup = s.setup ∧ (s.writebackFault w l c).releaseClaim = s.releaseClaim ∧
    (s.writebackFault w l c).statusEntry = s.statusEntry ∧
    (s.writebackFault w l c).statusWritten = s.statusWritten ∧ (s.writebackFault w l c).command = s.command ∧
    (s.writebackFault w l c).commandEntry = s.commandEntry ∧
    (s.writebackFault w l c).commandWritten = s.commandWritten ∧
    (s.writebackFault w l c).outstanding = s.outstanding ∧ (s.writebackFault w l c).head = s.head ∧
    (s.writebackFault w l c).responses = s.responses ∧ (s.writebackFault w l c).tags = s.tags ∧
    (s.writebackFault w l c).passQueue = s.passQueue ∧ (s.writebackFault w l c).dreq = s.dreq ∧
    (s.writebackFault w l c).windows = s.windows ∧ (s.writebackFault w l c).entries = s.entries ∧
    (s.writebackFault w l c).suspects = s.suspects ∧ (s.writebackFault w l c).sweepQueue = s.sweepQueue ∧
    (s.writebackFault w l c).engine = s.engine ∧ (s.writebackFault w l c).intervals = s.intervals ∧
    (s.writebackFault w l c).intervalDue = s.intervalDue ∧ (s.writebackFault w l c).bindings = s.bindings ∧
    (s.writebackFault w l c).chord = s.chord ∧ (s.writebackFault w l c).levels = s.levels ∧
    (s.writebackFault w l c).inputs = s.inputs ∧ (s.writebackFault w l c).chordTimer = s.chordTimer ∧
    (s.writebackFault w l c).chordFired = s.chordFired ∧ (s.writebackFault w l c).servicePos = s.servicePos ∧
    (s.writebackFault w l c).eventClaim = s.eventClaim ∧ (s.writebackFault w l c).newCounts = s.newCounts ∧
    (s.writebackFault w l c).logStyle = s.logStyle ∧ (s.writebackFault w l c).logBase = s.logBase := by
  simp [State.writebackFault]

@[simp] theorem releaseOutcome_keeps (m ok : Bool) :
    (s.releaseOutcome m ok).pending = s.pending ∧ (s.releaseOutcome m ok).bootStage = s.bootStage ∧
    (s.releaseOutcome m ok).resetKind = s.resetKind ∧ (s.releaseOutcome m ok).setupSel = s.setupSel ∧
    (s.releaseOutcome m ok).evLevels = s.evLevels ∧ (s.releaseOutcome m ok).ursp = s.ursp ∧
    (s.releaseOutcome m ok).alert = s.alert ∧ (s.releaseOutcome m ok).tick = s.tick ∧
    (s.releaseOutcome m ok).cycles = s.cycles ∧ (s.releaseOutcome m ok).partState = s.partState ∧
    (s.releaseOutcome m ok).wasActive = s.wasActive ∧ (s.releaseOutcome m ok).fellToDefault = s.fellToDefault ∧
    (s.releaseOutcome m ok).boot = s.boot ∧ (s.releaseOutcome m ok).live = s.live ∧
    (s.releaseOutcome m ok).setup = s.setup ∧ (s.releaseOutcome m ok).releaseClaim = s.releaseClaim ∧
    (s.releaseOutcome m ok).statusEntry = s.statusEntry ∧ (s.releaseOutcome m ok).statusWritten = s.statusWritten ∧
    (s.releaseOutcome m ok).commandEntry = s.commandEntry ∧
    (s.releaseOutcome m ok).commandWritten = s.commandWritten ∧
    (s.releaseOutcome m ok).outstanding = s.outstanding ∧ (s.releaseOutcome m ok).head = s.head ∧
    (s.releaseOutcome m ok).responses = s.responses ∧ (s.releaseOutcome m ok).tags = s.tags ∧
    (s.releaseOutcome m ok).passQueue = s.passQueue ∧ (s.releaseOutcome m ok).dreq = s.dreq ∧
    (s.releaseOutcome m ok).windows = s.windows ∧ (s.releaseOutcome m ok).entries = s.entries ∧
    (s.releaseOutcome m ok).suspects = s.suspects ∧ (s.releaseOutcome m ok).sweepQueue = s.sweepQueue ∧
    (s.releaseOutcome m ok).engine = s.engine ∧ (s.releaseOutcome m ok).intervals = s.intervals ∧
    (s.releaseOutcome m ok).intervalDue = s.intervalDue ∧ (s.releaseOutcome m ok).bindings = s.bindings ∧
    (s.releaseOutcome m ok).chord = s.chord ∧ (s.releaseOutcome m ok).levels = s.levels ∧
    (s.releaseOutcome m ok).inputs = s.inputs ∧ (s.releaseOutcome m ok).chordTimer = s.chordTimer ∧
    (s.releaseOutcome m ok).chordFired = s.chordFired ∧ (s.releaseOutcome m ok).servicePos = s.servicePos ∧
    (s.releaseOutcome m ok).eventClaim = s.eventClaim ∧ (s.releaseOutcome m ok).newCounts = s.newCounts ∧
    (s.releaseOutcome m ok).logStyle = s.logStyle ∧ (s.releaseOutcome m ok).logBase = s.logBase ∧
    (s.releaseOutcome m ok).logNext = s.logNext ∧ (s.releaseOutcome m ok).logHeld = s.logHeld ∧
    (s.releaseOutcome m ok).logQueue = s.logQueue := by
  dsimp only [State.releaseOutcome]
  (repeat' split) <;> simp

@[simp] theorem writebackEnded_keeps (i : Fin 12) (o : Outcome) :
    (s.writebackEnded i o).pending = s.pending ∧ (s.writebackEnded i o).bootStage = s.bootStage ∧
    (s.writebackEnded i o).resetKind = s.resetKind ∧ (s.writebackEnded i o).setupSel = s.setupSel ∧
    (s.writebackEnded i o).evLevels = s.evLevels ∧ (s.writebackEnded i o).ursp = s.ursp ∧
    (s.writebackEnded i o).alert = s.alert ∧ (s.writebackEnded i o).tick = s.tick ∧
    (s.writebackEnded i o).cycles = s.cycles ∧ (s.writebackEnded i o).partState = s.partState ∧
    (s.writebackEnded i o).wasActive = s.wasActive ∧ (s.writebackEnded i o).fellToDefault = s.fellToDefault ∧
    (s.writebackEnded i o).boot = s.boot ∧ (s.writebackEnded i o).live = s.live ∧
    (s.writebackEnded i o).setup = s.setup ∧ (s.writebackEnded i o).releaseClaim = s.releaseClaim ∧
    (s.writebackEnded i o).statusEntry = s.statusEntry ∧ (s.writebackEnded i o).statusWritten = s.statusWritten ∧
    (s.writebackEnded i o).commandEntry = s.commandEntry ∧
    (s.writebackEnded i o).commandWritten = s.commandWritten ∧ (s.writebackEnded i o).outstanding = s.outstanding ∧
    (s.writebackEnded i o).head = s.head ∧ (s.writebackEnded i o).responses = s.responses ∧
    (s.writebackEnded i o).tags = s.tags ∧ (s.writebackEnded i o).passQueue = s.passQueue ∧
    (s.writebackEnded i o).dreq = s.dreq ∧ (s.writebackEnded i o).windows = s.windows ∧
    (s.writebackEnded i o).suspects = s.suspects ∧ (s.writebackEnded i o).sweepQueue = s.sweepQueue ∧
    (s.writebackEnded i o).engine = s.engine ∧ (s.writebackEnded i o).intervals = s.intervals ∧
    (s.writebackEnded i o).intervalDue = s.intervalDue ∧ (s.writebackEnded i o).bindings = s.bindings ∧
    (s.writebackEnded i o).chord = s.chord ∧ (s.writebackEnded i o).levels = s.levels ∧
    (s.writebackEnded i o).inputs = s.inputs ∧ (s.writebackEnded i o).chordTimer = s.chordTimer ∧
    (s.writebackEnded i o).chordFired = s.chordFired ∧ (s.writebackEnded i o).servicePos = s.servicePos ∧
    (s.writebackEnded i o).eventClaim = s.eventClaim ∧ (s.writebackEnded i o).newCounts = s.newCounts ∧
    (s.writebackEnded i o).logStyle = s.logStyle ∧ (s.writebackEnded i o).logBase = s.logBase := by
  dsimp only [State.writebackEnded]
  (repeat' split) <;> simp

@[simp] theorem statusWritebackEnded_keeps (o : Outcome) :
    (s.statusWritebackEnded o).pending = s.pending ∧ (s.statusWritebackEnded o).bootStage = s.bootStage ∧
    (s.statusWritebackEnded o).resetKind = s.resetKind ∧ (s.statusWritebackEnded o).setupSel = s.setupSel ∧
    (s.statusWritebackEnded o).evLevels = s.evLevels ∧ (s.statusWritebackEnded o).ursp = s.ursp ∧
    (s.statusWritebackEnded o).alert = s.alert ∧ (s.statusWritebackEnded o).tick = s.tick ∧
    (s.statusWritebackEnded o).cycles = s.cycles ∧ (s.statusWritebackEnded o).partState = s.partState ∧
    (s.statusWritebackEnded o).wasActive = s.wasActive ∧
    (s.statusWritebackEnded o).fellToDefault = s.fellToDefault ∧ (s.statusWritebackEnded o).boot = s.boot ∧
    (s.statusWritebackEnded o).live = s.live ∧ (s.statusWritebackEnded o).setup = s.setup ∧
    (s.statusWritebackEnded o).releaseClaim = s.releaseClaim ∧ (s.statusWritebackEnded o).command = s.command ∧
    (s.statusWritebackEnded o).commandEntry = s.commandEntry ∧
    (s.statusWritebackEnded o).commandWritten = s.commandWritten ∧
    (s.statusWritebackEnded o).outstanding = s.outstanding ∧ (s.statusWritebackEnded o).head = s.head ∧
    (s.statusWritebackEnded o).responses = s.responses ∧ (s.statusWritebackEnded o).tags = s.tags ∧
    (s.statusWritebackEnded o).passQueue = s.passQueue ∧ (s.statusWritebackEnded o).dreq = s.dreq ∧
    (s.statusWritebackEnded o).windows = s.windows ∧ (s.statusWritebackEnded o).entries = s.entries ∧
    (s.statusWritebackEnded o).suspects = s.suspects ∧ (s.statusWritebackEnded o).sweepQueue = s.sweepQueue ∧
    (s.statusWritebackEnded o).engine = s.engine ∧ (s.statusWritebackEnded o).intervals = s.intervals ∧
    (s.statusWritebackEnded o).intervalDue = s.intervalDue ∧ (s.statusWritebackEnded o).bindings = s.bindings ∧
    (s.statusWritebackEnded o).chord = s.chord ∧ (s.statusWritebackEnded o).levels = s.levels ∧
    (s.statusWritebackEnded o).inputs = s.inputs ∧ (s.statusWritebackEnded o).chordTimer = s.chordTimer ∧
    (s.statusWritebackEnded o).chordFired = s.chordFired ∧ (s.statusWritebackEnded o).servicePos = s.servicePos ∧
    (s.statusWritebackEnded o).eventClaim = s.eventClaim ∧ (s.statusWritebackEnded o).newCounts = s.newCounts ∧
    (s.statusWritebackEnded o).logStyle = s.logStyle ∧ (s.statusWritebackEnded o).logBase = s.logBase := by
  dsimp only [State.statusWritebackEnded]
  (repeat' split) <;> simp

@[simp] theorem commandWritebackEnded_keeps (o : Outcome) :
    (s.commandWritebackEnded o).pending = s.pending ∧ (s.commandWritebackEnded o).bootStage = s.bootStage ∧
    (s.commandWritebackEnded o).resetKind = s.resetKind ∧ (s.commandWritebackEnded o).setupSel = s.setupSel ∧
    (s.commandWritebackEnded o).evLevels = s.evLevels ∧ (s.commandWritebackEnded o).ursp = s.ursp ∧
    (s.commandWritebackEnded o).alert = s.alert ∧ (s.commandWritebackEnded o).tick = s.tick ∧
    (s.commandWritebackEnded o).cycles = s.cycles ∧ (s.commandWritebackEnded o).partState = s.partState ∧
    (s.commandWritebackEnded o).wasActive = s.wasActive ∧
    (s.commandWritebackEnded o).fellToDefault = s.fellToDefault ∧ (s.commandWritebackEnded o).boot = s.boot ∧
    (s.commandWritebackEnded o).live = s.live ∧ (s.commandWritebackEnded o).setup = s.setup ∧
    (s.commandWritebackEnded o).releaseClaim = s.releaseClaim ∧
    (s.commandWritebackEnded o).statusEntry = s.statusEntry ∧
    (s.commandWritebackEnded o).statusWritten = s.statusWritten ∧ (s.commandWritebackEnded o).command = s.command ∧
    (s.commandWritebackEnded o).outstanding = s.outstanding ∧ (s.commandWritebackEnded o).head = s.head ∧
    (s.commandWritebackEnded o).responses = s.responses ∧ (s.commandWritebackEnded o).tags = s.tags ∧
    (s.commandWritebackEnded o).passQueue = s.passQueue ∧ (s.commandWritebackEnded o).dreq = s.dreq ∧
    (s.commandWritebackEnded o).windows = s.windows ∧ (s.commandWritebackEnded o).entries = s.entries ∧
    (s.commandWritebackEnded o).suspects = s.suspects ∧ (s.commandWritebackEnded o).sweepQueue = s.sweepQueue ∧
    (s.commandWritebackEnded o).engine = s.engine ∧ (s.commandWritebackEnded o).intervals = s.intervals ∧
    (s.commandWritebackEnded o).intervalDue = s.intervalDue ∧ (s.commandWritebackEnded o).bindings = s.bindings ∧
    (s.commandWritebackEnded o).chord = s.chord ∧ (s.commandWritebackEnded o).levels = s.levels ∧
    (s.commandWritebackEnded o).inputs = s.inputs ∧ (s.commandWritebackEnded o).chordTimer = s.chordTimer ∧
    (s.commandWritebackEnded o).chordFired = s.chordFired ∧ (s.commandWritebackEnded o).servicePos = s.servicePos ∧
    (s.commandWritebackEnded o).eventClaim = s.eventClaim ∧ (s.commandWritebackEnded o).newCounts = s.newCounts ∧
    (s.commandWritebackEnded o).logStyle = s.logStyle ∧ (s.commandWritebackEnded o).logBase = s.logBase := by
  dsimp only [State.commandWritebackEnded]
  (repeat' split) <;> simp

end Sys2Proof.Machine
end

