-- ==== Sys2Proof/Laws/Port.lean ====
section
/-!
SUPPORT. What the Downstream Port's operations leave as it is.
-/

namespace Sys2Proof.Machine

variable (s : State)

@[simp] theorem grant_keeps (t : DownTag) (w : Waiter) :
    (s.grant t w).pending = s.pending ∧ (s.grant t w).bootStage = s.bootStage ∧
    (s.grant t w).resetKind = s.resetKind ∧ (s.grant t w).setupSel = s.setupSel ∧
    (s.grant t w).evLevels = s.evLevels ∧ (s.grant t w).ursp = s.ursp ∧ (s.grant t w).alert = s.alert ∧
    (s.grant t w).tick = s.tick ∧ (s.grant t w).cycles = s.cycles ∧ (s.grant t w).partState = s.partState ∧
    (s.grant t w).wasActive = s.wasActive ∧ (s.grant t w).fellToDefault = s.fellToDefault ∧
    (s.grant t w).boot = s.boot ∧ (s.grant t w).live = s.live ∧ (s.grant t w).releaseClaim = s.releaseClaim ∧
    (s.grant t w).flags = s.flags ∧ (s.grant t w).statusWritten = s.statusWritten ∧
    (s.grant t w).command = s.command ∧ (s.grant t w).commandWritten = s.commandWritten ∧
    (s.grant t w).outstanding = s.outstanding ∧ (s.grant t w).head = s.head ∧
    (s.grant t w).responses = s.responses ∧ (s.grant t w).windows = s.windows ∧
    (s.grant t w).suspects = s.suspects ∧ (s.grant t w).sweepQueue = s.sweepQueue ∧
    (s.grant t w).intervals = s.intervals ∧ (s.grant t w).intervalDue = s.intervalDue ∧
    (s.grant t w).bindings = s.bindings ∧ (s.grant t w).chord = s.chord ∧ (s.grant t w).levels = s.levels ∧
    (s.grant t w).inputs = s.inputs ∧ (s.grant t w).chordTimer = s.chordTimer ∧
    (s.grant t w).chordFired = s.chordFired ∧ (s.grant t w).servicePos = s.servicePos ∧
    (s.grant t w).eventClaim = s.eventClaim ∧ (s.grant t w).newCounts = s.newCounts ∧
    (s.grant t w).logStyle = s.logStyle ∧ (s.grant t w).logBase = s.logBase ∧ (s.grant t w).logNext = s.logNext ∧
    (s.grant t w).logHeld = s.logHeld := by
  dsimp only [State.grant]
  (repeat' split) <;> simp

@[simp] theorem reportOutcome_keeps (w : Option WindowNo) (r : TagRecord) (o : Outcome) :
    (s.reportOutcome w r o).pending = s.pending ∧ (s.reportOutcome w r o).bootStage = s.bootStage ∧
    (s.reportOutcome w r o).resetKind = s.resetKind ∧ (s.reportOutcome w r o).setupSel = s.setupSel ∧
    (s.reportOutcome w r o).evLevels = s.evLevels ∧ (s.reportOutcome w r o).ursp = s.ursp ∧
    (s.reportOutcome w r o).alert = s.alert ∧ (s.reportOutcome w r o).tick = s.tick ∧
    (s.reportOutcome w r o).cycles = s.cycles ∧ (s.reportOutcome w r o).partState = s.partState ∧
    (s.reportOutcome w r o).wasActive = s.wasActive ∧ (s.reportOutcome w r o).fellToDefault = s.fellToDefault ∧
    (s.reportOutcome w r o).boot = s.boot ∧ (s.reportOutcome w r o).live = s.live ∧
    (s.reportOutcome w r o).setup = s.setup ∧ (s.reportOutcome w r o).releaseClaim = s.releaseClaim ∧
    (s.reportOutcome w r o).statusEntry = s.statusEntry ∧ (s.reportOutcome w r o).statusWritten = s.statusWritten ∧
    (s.reportOutcome w r o).command = s.command ∧ (s.reportOutcome w r o).commandEntry = s.commandEntry ∧
    (s.reportOutcome w r o).commandWritten = s.commandWritten ∧
    (s.reportOutcome w r o).outstanding = s.outstanding ∧ (s.reportOutcome w r o).head = s.head ∧
    (s.reportOutcome w r o).responses = s.responses ∧ (s.reportOutcome w r o).tags = s.tags ∧
    (s.reportOutcome w r o).passQueue = s.passQueue ∧ (s.reportOutcome w r o).dreq = s.dreq ∧
    (s.reportOutcome w r o).windows = s.windows ∧ (s.reportOutcome w r o).entries = s.entries ∧
    (s.reportOutcome w r o).suspects = s.suspects ∧ (s.reportOutcome w r o).sweepQueue = s.sweepQueue ∧
    (s.reportOutcome w r o).engine = s.engine ∧ (s.reportOutcome w r o).intervals = s.intervals ∧
    (s.reportOutcome w r o).intervalDue = s.intervalDue ∧ (s.reportOutcome w r o).bindings = s.bindings ∧
    (s.reportOutcome w r o).chord = s.chord ∧ (s.reportOutcome w r o).levels = s.levels ∧
    (s.reportOutcome w r o).inputs = s.inputs ∧ (s.reportOutcome w r o).chordTimer = s.chordTimer ∧
    (s.reportOutcome w r o).chordFired = s.chordFired ∧ (s.reportOutcome w r o).servicePos = s.servicePos ∧
    (s.reportOutcome w r o).eventClaim = s.eventClaim ∧ (s.reportOutcome w r o).newCounts = s.newCounts ∧
    (s.reportOutcome w r o).logStyle = s.logStyle ∧ (s.reportOutcome w r o).logBase = s.logBase := by
  dsimp only [State.reportOutcome]
  (repeat' split) <;> simp

@[simp] theorem logWriteEnded_keeps (o : Outcome) :
    (s.logWriteEnded o).pending = s.pending ∧ (s.logWriteEnded o).bootStage = s.bootStage ∧
    (s.logWriteEnded o).resetKind = s.resetKind ∧ (s.logWriteEnded o).setupSel = s.setupSel ∧
    (s.logWriteEnded o).evLevels = s.evLevels ∧ (s.logWriteEnded o).ursp = s.ursp ∧
    (s.logWriteEnded o).alert = s.alert ∧ (s.logWriteEnded o).tick = s.tick ∧
    (s.logWriteEnded o).cycles = s.cycles ∧ (s.logWriteEnded o).partState = s.partState ∧
    (s.logWriteEnded o).wasActive = s.wasActive ∧ (s.logWriteEnded o).fellToDefault = s.fellToDefault ∧
    (s.logWriteEnded o).boot = s.boot ∧ (s.logWriteEnded o).live = s.live ∧ (s.logWriteEnded o).setup = s.setup ∧
    (s.logWriteEnded o).releaseClaim = s.releaseClaim ∧ (s.logWriteEnded o).statusEntry = s.statusEntry ∧
    (s.logWriteEnded o).statusWritten = s.statusWritten ∧ (s.logWriteEnded o).command = s.command ∧
    (s.logWriteEnded o).commandEntry = s.commandEntry ∧ (s.logWriteEnded o).commandWritten = s.commandWritten ∧
    (s.logWriteEnded o).outstanding = s.outstanding ∧ (s.logWriteEnded o).head = s.head ∧
    (s.logWriteEnded o).responses = s.responses ∧ (s.logWriteEnded o).tags = s.tags ∧
    (s.logWriteEnded o).passQueue = s.passQueue ∧ (s.logWriteEnded o).dreq = s.dreq ∧
    (s.logWriteEnded o).windows = s.windows ∧ (s.logWriteEnded o).entries = s.entries ∧
    (s.logWriteEnded o).suspects = s.suspects ∧ (s.logWriteEnded o).sweepQueue = s.sweepQueue ∧
    (s.logWriteEnded o).engine = s.engine ∧ (s.logWriteEnded o).intervals = s.intervals ∧
    (s.logWriteEnded o).intervalDue = s.intervalDue ∧ (s.logWriteEnded o).bindings = s.bindings ∧
    (s.logWriteEnded o).chord = s.chord ∧ (s.logWriteEnded o).levels = s.levels ∧
    (s.logWriteEnded o).inputs = s.inputs ∧ (s.logWriteEnded o).chordTimer = s.chordTimer ∧
    (s.logWriteEnded o).chordFired = s.chordFired ∧ (s.logWriteEnded o).servicePos = s.servicePos ∧
    (s.logWriteEnded o).eventClaim = s.eventClaim ∧ (s.logWriteEnded o).newCounts = s.newCounts ∧
    (s.logWriteEnded o).logStyle = s.logStyle ∧ (s.logWriteEnded o).logBase = s.logBase ∧
    (s.logWriteEnded o).logNext = s.logNext ∧ (s.logWriteEnded o).logHeld = s.logHeld ∧
    (s.logWriteEnded o).logQueue = s.logQueue := by
  dsimp only [State.logWriteEnded]
  (repeat' split) <;> simp

@[simp] theorem passAnswer_keeps (t : UpTag) (b : Bool) (o : Outcome) :
    (s.passAnswer t b o).pending = s.pending ∧ (s.passAnswer t b o).bootStage = s.bootStage ∧
    (s.passAnswer t b o).resetKind = s.resetKind ∧ (s.passAnswer t b o).setupSel = s.setupSel ∧
    (s.passAnswer t b o).evLevels = s.evLevels ∧ (s.passAnswer t b o).ursp = s.ursp ∧
    (s.passAnswer t b o).alert = s.alert ∧ (s.passAnswer t b o).tick = s.tick ∧
    (s.passAnswer t b o).cycles = s.cycles ∧ (s.passAnswer t b o).partState = s.partState ∧
    (s.passAnswer t b o).wasActive = s.wasActive ∧ (s.passAnswer t b o).fellToDefault = s.fellToDefault ∧
    (s.passAnswer t b o).boot = s.boot ∧ (s.passAnswer t b o).live = s.live ∧ (s.passAnswer t b o).setup = s.setup ∧
    (s.passAnswer t b o).releaseClaim = s.releaseClaim ∧ (s.passAnswer t b o).flags = s.flags ∧
    (s.passAnswer t b o).statusEntry = s.statusEntry ∧ (s.passAnswer t b o).statusWritten = s.statusWritten ∧
    (s.passAnswer t b o).command = s.command ∧ (s.passAnswer t b o).commandEntry = s.commandEntry ∧
    (s.passAnswer t b o).commandWritten = s.commandWritten ∧ (s.passAnswer t b o).head = s.head ∧
    (s.passAnswer t b o).tags = s.tags ∧ (s.passAnswer t b o).passQueue = s.passQueue ∧
    (s.passAnswer t b o).dreq = s.dreq ∧ (s.passAnswer t b o).windows = s.windows ∧
    (s.passAnswer t b o).entries = s.entries ∧ (s.passAnswer t b o).suspects = s.suspects ∧
    (s.passAnswer t b o).sweepQueue = s.sweepQueue ∧ (s.passAnswer t b o).engine = s.engine ∧
    (s.passAnswer t b o).intervals = s.intervals ∧ (s.passAnswer t b o).intervalDue = s.intervalDue ∧
    (s.passAnswer t b o).bindings = s.bindings ∧ (s.passAnswer t b o).chord = s.chord ∧
    (s.passAnswer t b o).levels = s.levels ∧ (s.passAnswer t b o).inputs = s.inputs ∧
    (s.passAnswer t b o).chordTimer = s.chordTimer ∧ (s.passAnswer t b o).chordFired = s.chordFired ∧
    (s.passAnswer t b o).servicePos = s.servicePos ∧ (s.passAnswer t b o).eventClaim = s.eventClaim ∧
    (s.passAnswer t b o).newCounts = s.newCounts ∧ (s.passAnswer t b o).logStyle = s.logStyle ∧
    (s.passAnswer t b o).logBase = s.logBase ∧ (s.passAnswer t b o).logNext = s.logNext ∧
    (s.passAnswer t b o).logHeld = s.logHeld ∧ (s.passAnswer t b o).logQueue = s.logQueue := by
  dsimp only [State.passAnswer]
  (repeat' split) <;> simp

@[simp] theorem deliver_keeps (t : DownTag) (r : TagRecord) (o : Outcome) :
    (s.deliver t r o).pending = s.pending ∧ (s.deliver t r o).bootStage = s.bootStage ∧
    (s.deliver t r o).resetKind = s.resetKind ∧ (s.deliver t r o).setupSel = s.setupSel ∧
    (s.deliver t r o).evLevels = s.evLevels ∧ (s.deliver t r o).ursp = s.ursp ∧ (s.deliver t r o).alert = s.alert ∧
    (s.deliver t r o).tick = s.tick ∧ (s.deliver t r o).cycles = s.cycles ∧
    (s.deliver t r o).partState = s.partState ∧ (s.deliver t r o).wasActive = s.wasActive ∧
    (s.deliver t r o).fellToDefault = s.fellToDefault ∧ (s.deliver t r o).boot = s.boot ∧
    (s.deliver t r o).live = s.live ∧ (s.deliver t r o).releaseClaim = s.releaseClaim ∧
    (s.deliver t r o).head = s.head ∧ (s.deliver t r o).tags = s.tags ∧ (s.deliver t r o).passQueue = s.passQueue ∧
    (s.deliver t r o).dreq = s.dreq ∧ (s.deliver t r o).sweepQueue = s.sweepQueue ∧
    (s.deliver t r o).intervals = s.intervals ∧ (s.deliver t r o).intervalDue = s.intervalDue ∧
    (s.deliver t r o).bindings = s.bindings ∧ (s.deliver t r o).chord = s.chord ∧
    (s.deliver t r o).levels = s.levels ∧ (s.deliver t r o).inputs = s.inputs ∧
    (s.deliver t r o).chordTimer = s.chordTimer ∧ (s.deliver t r o).chordFired = s.chordFired ∧
    (s.deliver t r o).servicePos = s.servicePos ∧ (s.deliver t r o).eventClaim = s.eventClaim ∧
    (s.deliver t r o).newCounts = s.newCounts ∧ (s.deliver t r o).logStyle = s.logStyle ∧
    (s.deliver t r o).logBase = s.logBase := by
  dsimp only [State.deliver]
  (repeat' split) <;> simp

end Sys2Proof.Machine
end

