-- ==== Sys2Proof/Laws/Events.lean ====
section
/-!
SUPPORT. What the Event Input Unit's operations and the taking of claims leave as it is.
-/

namespace Sys2Proof.Machine

variable (s : State)

@[simp] theorem makeClaim_keeps :
    (s.makeClaim).pending = s.pending ∧ (s.makeClaim).bootStage = s.bootStage ∧
    (s.makeClaim).resetKind = s.resetKind ∧ (s.makeClaim).setupSel = s.setupSel ∧
    (s.makeClaim).evLevels = s.evLevels ∧ (s.makeClaim).ursp = s.ursp ∧ (s.makeClaim).alert = s.alert ∧
    (s.makeClaim).tick = s.tick ∧ (s.makeClaim).cycles = s.cycles ∧ (s.makeClaim).partState = s.partState ∧
    (s.makeClaim).wasActive = s.wasActive ∧ (s.makeClaim).fellToDefault = s.fellToDefault ∧
    (s.makeClaim).boot = s.boot ∧ (s.makeClaim).live = s.live ∧ (s.makeClaim).setup = s.setup ∧
    (s.makeClaim).releaseClaim = s.releaseClaim ∧ (s.makeClaim).flags = s.flags ∧
    (s.makeClaim).statusEntry = s.statusEntry ∧ (s.makeClaim).statusWritten = s.statusWritten ∧
    (s.makeClaim).command = s.command ∧ (s.makeClaim).commandEntry = s.commandEntry ∧
    (s.makeClaim).commandWritten = s.commandWritten ∧ (s.makeClaim).outstanding = s.outstanding ∧
    (s.makeClaim).head = s.head ∧ (s.makeClaim).responses = s.responses ∧ (s.makeClaim).tags = s.tags ∧
    (s.makeClaim).passQueue = s.passQueue ∧ (s.makeClaim).dreq = s.dreq ∧ (s.makeClaim).windows = s.windows ∧
    (s.makeClaim).entries = s.entries ∧ (s.makeClaim).suspects = s.suspects ∧
    (s.makeClaim).sweepQueue = s.sweepQueue ∧ (s.makeClaim).engine = s.engine ∧
    (s.makeClaim).intervals = s.intervals ∧ (s.makeClaim).intervalDue = s.intervalDue ∧
    (s.makeClaim).bindings = s.bindings ∧ (s.makeClaim).chord = s.chord ∧ (s.makeClaim).levels = s.levels ∧
    (s.makeClaim).inputs = s.inputs ∧ (s.makeClaim).chordTimer = s.chordTimer ∧
    (s.makeClaim).chordFired = s.chordFired ∧ (s.makeClaim).servicePos = s.servicePos ∧
    (s.makeClaim).newCounts = s.newCounts ∧ (s.makeClaim).logStyle = s.logStyle ∧
    (s.makeClaim).logBase = s.logBase ∧ (s.makeClaim).logNext = s.logNext ∧ (s.makeClaim).logHeld = s.logHeld ∧
    (s.makeClaim).logQueue = s.logQueue := by
  dsimp only [State.makeClaim]
  (repeat' split) <;> simp

@[simp] theorem countEdge_keeps (n : InputNo) (b : Binding) :
    (s.countEdge n b).pending = s.pending ∧ (s.countEdge n b).bootStage = s.bootStage ∧
    (s.countEdge n b).resetKind = s.resetKind ∧ (s.countEdge n b).setupSel = s.setupSel ∧
    (s.countEdge n b).evLevels = s.evLevels ∧ (s.countEdge n b).ursp = s.ursp ∧ (s.countEdge n b).alert = s.alert ∧
    (s.countEdge n b).tick = s.tick ∧ (s.countEdge n b).cycles = s.cycles ∧
    (s.countEdge n b).partState = s.partState ∧ (s.countEdge n b).wasActive = s.wasActive ∧
    (s.countEdge n b).fellToDefault = s.fellToDefault ∧ (s.countEdge n b).boot = s.boot ∧
    (s.countEdge n b).live = s.live ∧ (s.countEdge n b).setup = s.setup ∧
    (s.countEdge n b).releaseClaim = s.releaseClaim ∧ (s.countEdge n b).statusEntry = s.statusEntry ∧
    (s.countEdge n b).statusWritten = s.statusWritten ∧ (s.countEdge n b).command = s.command ∧
    (s.countEdge n b).commandEntry = s.commandEntry ∧ (s.countEdge n b).commandWritten = s.commandWritten ∧
    (s.countEdge n b).outstanding = s.outstanding ∧ (s.countEdge n b).head = s.head ∧
    (s.countEdge n b).responses = s.responses ∧ (s.countEdge n b).tags = s.tags ∧
    (s.countEdge n b).passQueue = s.passQueue ∧ (s.countEdge n b).dreq = s.dreq ∧
    (s.countEdge n b).windows = s.windows ∧ (s.countEdge n b).entries = s.entries ∧
    (s.countEdge n b).suspects = s.suspects ∧ (s.countEdge n b).sweepQueue = s.sweepQueue ∧
    (s.countEdge n b).engine = s.engine ∧ (s.countEdge n b).intervals = s.intervals ∧
    (s.countEdge n b).intervalDue = s.intervalDue ∧ (s.countEdge n b).bindings = s.bindings ∧
    (s.countEdge n b).chord = s.chord ∧ (s.countEdge n b).levels = s.levels ∧
    (s.countEdge n b).chordTimer = s.chordTimer ∧ (s.countEdge n b).chordFired = s.chordFired ∧
    (s.countEdge n b).servicePos = s.servicePos ∧ (s.countEdge n b).eventClaim = s.eventClaim ∧
    (s.countEdge n b).logStyle = s.logStyle ∧ (s.countEdge n b).logBase = s.logBase := by
  dsimp only [State.countEdge]
  (repeat' split) <;> simp

@[simp] theorem chordAfterChange_keeps (x y : BitVec 4) :
    (s.chordAfterChange x y).pending = s.pending ∧ (s.chordAfterChange x y).bootStage = s.bootStage ∧
    (s.chordAfterChange x y).resetKind = s.resetKind ∧ (s.chordAfterChange x y).setupSel = s.setupSel ∧
    (s.chordAfterChange x y).evLevels = s.evLevels ∧ (s.chordAfterChange x y).ursp = s.ursp ∧
    (s.chordAfterChange x y).alert = s.alert ∧ (s.chordAfterChange x y).tick = s.tick ∧
    (s.chordAfterChange x y).cycles = s.cycles ∧ (s.chordAfterChange x y).partState = s.partState ∧
    (s.chordAfterChange x y).wasActive = s.wasActive ∧ (s.chordAfterChange x y).fellToDefault = s.fellToDefault ∧
    (s.chordAfterChange x y).boot = s.boot ∧ (s.chordAfterChange x y).live = s.live ∧
    (s.chordAfterChange x y).setup = s.setup ∧ (s.chordAfterChange x y).releaseClaim = s.releaseClaim ∧
    (s.chordAfterChange x y).flags = s.flags ∧ (s.chordAfterChange x y).statusEntry = s.statusEntry ∧
    (s.chordAfterChange x y).statusWritten = s.statusWritten ∧ (s.chordAfterChange x y).command = s.command ∧
    (s.chordAfterChange x y).commandEntry = s.commandEntry ∧
    (s.chordAfterChange x y).commandWritten = s.commandWritten ∧
    (s.chordAfterChange x y).outstanding = s.outstanding ∧ (s.chordAfterChange x y).head = s.head ∧
    (s.chordAfterChange x y).responses = s.responses ∧ (s.chordAfterChange x y).tags = s.tags ∧
    (s.chordAfterChange x y).passQueue = s.passQueue ∧ (s.chordAfterChange x y).dreq = s.dreq ∧
    (s.chordAfterChange x y).windows = s.windows ∧ (s.chordAfterChange x y).entries = s.entries ∧
    (s.chordAfterChange x y).suspects = s.suspects ∧ (s.chordAfterChange x y).sweepQueue = s.sweepQueue ∧
    (s.chordAfterChange x y).engine = s.engine ∧ (s.chordAfterChange x y).intervals = s.intervals ∧
    (s.chordAfterChange x y).intervalDue = s.intervalDue ∧ (s.chordAfterChange x y).bindings = s.bindings ∧
    (s.chordAfterChange x y).chord = s.chord ∧ (s.chordAfterChange x y).levels = s.levels ∧
    (s.chordAfterChange x y).inputs = s.inputs ∧ (s.chordAfterChange x y).servicePos = s.servicePos ∧
    (s.chordAfterChange x y).eventClaim = s.eventClaim ∧ (s.chordAfterChange x y).newCounts = s.newCounts ∧
    (s.chordAfterChange x y).logStyle = s.logStyle ∧ (s.chordAfterChange x y).logBase = s.logBase ∧
    (s.chordAfterChange x y).logNext = s.logNext ∧ (s.chordAfterChange x y).logHeld = s.logHeld ∧
    (s.chordAfterChange x y).logQueue = s.logQueue := by
  dsimp only [State.chordAfterChange]
  (repeat' split) <;> simp

@[simp] theorem acceptChange_keeps (n : InputNo) (v : BitVec 4) :
    (s.acceptChange n v).pending = s.pending ∧ (s.acceptChange n v).bootStage = s.bootStage ∧
    (s.acceptChange n v).resetKind = s.resetKind ∧ (s.acceptChange n v).setupSel = s.setupSel ∧
    (s.acceptChange n v).evLevels = s.evLevels ∧ (s.acceptChange n v).ursp = s.ursp ∧
    (s.acceptChange n v).alert = s.alert ∧ (s.acceptChange n v).tick = s.tick ∧
    (s.acceptChange n v).cycles = s.cycles ∧ (s.acceptChange n v).partState = s.partState ∧
    (s.acceptChange n v).wasActive = s.wasActive ∧ (s.acceptChange n v).fellToDefault = s.fellToDefault ∧
    (s.acceptChange n v).boot = s.boot ∧ (s.acceptChange n v).live = s.live ∧ (s.acceptChange n v).setup = s.setup ∧
    (s.acceptChange n v).releaseClaim = s.releaseClaim ∧ (s.acceptChange n v).statusEntry = s.statusEntry ∧
    (s.acceptChange n v).statusWritten = s.statusWritten ∧ (s.acceptChange n v).command = s.command ∧
    (s.acceptChange n v).commandEntry = s.commandEntry ∧ (s.acceptChange n v).commandWritten = s.commandWritten ∧
    (s.acceptChange n v).outstanding = s.outstanding ∧ (s.acceptChange n v).head = s.head ∧
    (s.acceptChange n v).responses = s.responses ∧ (s.acceptChange n v).tags = s.tags ∧
    (s.acceptChange n v).passQueue = s.passQueue ∧ (s.acceptChange n v).dreq = s.dreq ∧
    (s.acceptChange n v).windows = s.windows ∧ (s.acceptChange n v).entries = s.entries ∧
    (s.acceptChange n v).suspects = s.suspects ∧ (s.acceptChange n v).sweepQueue = s.sweepQueue ∧
    (s.acceptChange n v).engine = s.engine ∧ (s.acceptChange n v).intervals = s.intervals ∧
    (s.acceptChange n v).intervalDue = s.intervalDue ∧ (s.acceptChange n v).bindings = s.bindings ∧
    (s.acceptChange n v).chord = s.chord ∧ (s.acceptChange n v).servicePos = s.servicePos ∧
    (s.acceptChange n v).logStyle = s.logStyle ∧ (s.acceptChange n v).logBase = s.logBase := by
  dsimp only [State.acceptChange]
  (repeat' split) <;> simp

@[simp] theorem enterStuck_keeps (n : InputNo) (b : Binding) :
    (s.enterStuck n b).pending = s.pending ∧ (s.enterStuck n b).bootStage = s.bootStage ∧
    (s.enterStuck n b).resetKind = s.resetKind ∧ (s.enterStuck n b).setupSel = s.setupSel ∧
    (s.enterStuck n b).evLevels = s.evLevels ∧ (s.enterStuck n b).ursp = s.ursp ∧
    (s.enterStuck n b).alert = s.alert ∧ (s.enterStuck n b).tick = s.tick ∧ (s.enterStuck n b).cycles = s.cycles ∧
    (s.enterStuck n b).partState = s.partState ∧ (s.enterStuck n b).wasActive = s.wasActive ∧
    (s.enterStuck n b).fellToDefault = s.fellToDefault ∧ (s.enterStuck n b).boot = s.boot ∧
    (s.enterStuck n b).live = s.live ∧ (s.enterStuck n b).setup = s.setup ∧
    (s.enterStuck n b).releaseClaim = s.releaseClaim ∧ (s.enterStuck n b).statusEntry = s.statusEntry ∧
    (s.enterStuck n b).statusWritten = s.statusWritten ∧ (s.enterStuck n b).command = s.command ∧
    (s.enterStuck n b).commandEntry = s.commandEntry ∧ (s.enterStuck n b).commandWritten = s.commandWritten ∧
    (s.enterStuck n b).outstanding = s.outstanding ∧ (s.enterStuck n b).head = s.head ∧
    (s.enterStuck n b).responses = s.responses ∧ (s.enterStuck n b).tags = s.tags ∧
    (s.enterStuck n b).passQueue = s.passQueue ∧ (s.enterStuck n b).dreq = s.dreq ∧
    (s.enterStuck n b).windows = s.windows ∧ (s.enterStuck n b).entries = s.entries ∧
    (s.enterStuck n b).suspects = s.suspects ∧ (s.enterStuck n b).sweepQueue = s.sweepQueue ∧
    (s.enterStuck n b).engine = s.engine ∧ (s.enterStuck n b).intervals = s.intervals ∧
    (s.enterStuck n b).intervalDue = s.intervalDue ∧ (s.enterStuck n b).bindings = s.bindings ∧
    (s.enterStuck n b).chord = s.chord ∧ (s.enterStuck n b).levels = s.levels ∧
    (s.enterStuck n b).chordTimer = s.chordTimer ∧ (s.enterStuck n b).chordFired = s.chordFired ∧
    (s.enterStuck n b).servicePos = s.servicePos ∧ (s.enterStuck n b).eventClaim = s.eventClaim ∧
    (s.enterStuck n b).newCounts = s.newCounts ∧ (s.enterStuck n b).logStyle = s.logStyle ∧
    (s.enterStuck n b).logBase = s.logBase := by
  simp [State.enterStuck]

@[simp] theorem fireChord_keeps :
    (s.fireChord).pending = s.pending ∧ (s.fireChord).bootStage = s.bootStage ∧
    (s.fireChord).resetKind = s.resetKind ∧ (s.fireChord).setupSel = s.setupSel ∧
    (s.fireChord).evLevels = s.evLevels ∧ (s.fireChord).ursp = s.ursp ∧ (s.fireChord).alert = s.alert ∧
    (s.fireChord).tick = s.tick ∧ (s.fireChord).cycles = s.cycles ∧ (s.fireChord).partState = s.partState ∧
    (s.fireChord).wasActive = s.wasActive ∧ (s.fireChord).fellToDefault = s.fellToDefault ∧
    (s.fireChord).boot = s.boot ∧ (s.fireChord).live = s.live ∧ (s.fireChord).setup = s.setup ∧
    (s.fireChord).releaseClaim = s.releaseClaim ∧ (s.fireChord).statusEntry = s.statusEntry ∧
    (s.fireChord).statusWritten = s.statusWritten ∧ (s.fireChord).command = s.command ∧
    (s.fireChord).commandEntry = s.commandEntry ∧ (s.fireChord).commandWritten = s.commandWritten ∧
    (s.fireChord).outstanding = s.outstanding ∧ (s.fireChord).head = s.head ∧
    (s.fireChord).responses = s.responses ∧ (s.fireChord).tags = s.tags ∧ (s.fireChord).passQueue = s.passQueue ∧
    (s.fireChord).dreq = s.dreq ∧ (s.fireChord).windows = s.windows ∧ (s.fireChord).entries = s.entries ∧
    (s.fireChord).suspects = s.suspects ∧ (s.fireChord).engine = s.engine ∧ (s.fireChord).intervals = s.intervals ∧
    (s.fireChord).intervalDue = s.intervalDue ∧ (s.fireChord).bindings = s.bindings ∧
    (s.fireChord).chord = s.chord ∧ (s.fireChord).levels = s.levels ∧ (s.fireChord).inputs = s.inputs ∧
    (s.fireChord).chordTimer = s.chordTimer ∧ (s.fireChord).servicePos = s.servicePos ∧
    (s.fireChord).eventClaim = s.eventClaim ∧ (s.fireChord).newCounts = s.newCounts ∧
    (s.fireChord).logStyle = s.logStyle ∧ (s.fireChord).logBase = s.logBase := by
  simp [State.fireChord]

@[simp] theorem sample_keeps (v : BitVec 4) :
    (s.sample v).pending = s.pending ∧ (s.sample v).bootStage = s.bootStage ∧ (s.sample v).resetKind = s.resetKind ∧
    (s.sample v).setupSel = s.setupSel ∧ (s.sample v).evLevels = s.evLevels ∧ (s.sample v).ursp = s.ursp ∧
    (s.sample v).alert = s.alert ∧ (s.sample v).tick = s.tick ∧ (s.sample v).cycles = s.cycles ∧
    (s.sample v).partState = s.partState ∧ (s.sample v).wasActive = s.wasActive ∧
    (s.sample v).fellToDefault = s.fellToDefault ∧ (s.sample v).boot = s.boot ∧ (s.sample v).live = s.live ∧
    (s.sample v).setup = s.setup ∧ (s.sample v).releaseClaim = s.releaseClaim ∧ (s.sample v).flags = s.flags ∧
    (s.sample v).statusEntry = s.statusEntry ∧ (s.sample v).statusWritten = s.statusWritten ∧
    (s.sample v).command = s.command ∧ (s.sample v).commandEntry = s.commandEntry ∧
    (s.sample v).commandWritten = s.commandWritten ∧ (s.sample v).outstanding = s.outstanding ∧
    (s.sample v).head = s.head ∧ (s.sample v).responses = s.responses ∧ (s.sample v).tags = s.tags ∧
    (s.sample v).passQueue = s.passQueue ∧ (s.sample v).dreq = s.dreq ∧ (s.sample v).windows = s.windows ∧
    (s.sample v).entries = s.entries ∧ (s.sample v).suspects = s.suspects ∧ (s.sample v).sweepQueue = s.sweepQueue ∧
    (s.sample v).engine = s.engine ∧ (s.sample v).intervals = s.intervals ∧
    (s.sample v).intervalDue = s.intervalDue ∧ (s.sample v).bindings = s.bindings ∧ (s.sample v).chord = s.chord ∧
    (s.sample v).chordFired = s.chordFired ∧ (s.sample v).servicePos = s.servicePos ∧
    (s.sample v).eventClaim = s.eventClaim ∧ (s.sample v).newCounts = s.newCounts ∧
    (s.sample v).logStyle = s.logStyle ∧ (s.sample v).logBase = s.logBase ∧ (s.sample v).logNext = s.logNext ∧
    (s.sample v).logHeld = s.logHeld ∧ (s.sample v).logQueue = s.logQueue := by
  dsimp only [State.sample]
  (repeat' split) <;> simp

@[simp] theorem eventDiscarded_keeps (n : InputNo) (b : Binding) :
    (s.eventDiscarded n b).pending = s.pending ∧ (s.eventDiscarded n b).bootStage = s.bootStage ∧
    (s.eventDiscarded n b).resetKind = s.resetKind ∧ (s.eventDiscarded n b).setupSel = s.setupSel ∧
    (s.eventDiscarded n b).evLevels = s.evLevels ∧ (s.eventDiscarded n b).ursp = s.ursp ∧
    (s.eventDiscarded n b).alert = s.alert ∧ (s.eventDiscarded n b).tick = s.tick ∧
    (s.eventDiscarded n b).cycles = s.cycles ∧ (s.eventDiscarded n b).partState = s.partState ∧
    (s.eventDiscarded n b).wasActive = s.wasActive ∧ (s.eventDiscarded n b).fellToDefault = s.fellToDefault ∧
    (s.eventDiscarded n b).boot = s.boot ∧ (s.eventDiscarded n b).live = s.live ∧
    (s.eventDiscarded n b).setup = s.setup ∧ (s.eventDiscarded n b).releaseClaim = s.releaseClaim ∧
    (s.eventDiscarded n b).statusEntry = s.statusEntry ∧ (s.eventDiscarded n b).statusWritten = s.statusWritten ∧
    (s.eventDiscarded n b).command = s.command ∧ (s.eventDiscarded n b).commandEntry = s.commandEntry ∧
    (s.eventDiscarded n b).commandWritten = s.commandWritten ∧ (s.eventDiscarded n b).outstanding = s.outstanding ∧
    (s.eventDiscarded n b).head = s.head ∧ (s.eventDiscarded n b).responses = s.responses ∧
    (s.eventDiscarded n b).tags = s.tags ∧ (s.eventDiscarded n b).passQueue = s.passQueue ∧
    (s.eventDiscarded n b).dreq = s.dreq ∧ (s.eventDiscarded n b).windows = s.windows ∧
    (s.eventDiscarded n b).entries = s.entries ∧ (s.eventDiscarded n b).suspects = s.suspects ∧
    (s.eventDiscarded n b).sweepQueue = s.sweepQueue ∧ (s.eventDiscarded n b).engine = s.engine ∧
    (s.eventDiscarded n b).intervals = s.intervals ∧ (s.eventDiscarded n b).intervalDue = s.intervalDue ∧
    (s.eventDiscarded n b).bindings = s.bindings ∧ (s.eventDiscarded n b).chord = s.chord ∧
    (s.eventDiscarded n b).levels = s.levels ∧ (s.eventDiscarded n b).chordTimer = s.chordTimer ∧
    (s.eventDiscarded n b).chordFired = s.chordFired ∧ (s.eventDiscarded n b).newCounts = s.newCounts ∧
    (s.eventDiscarded n b).logStyle = s.logStyle ∧ (s.eventDiscarded n b).logBase = s.logBase := by
  simp [State.eventDiscarded]

@[simp] theorem acceptSweepItem_keeps (sw : Sweep) (r : WindowRecord) :
    (s.acceptSweepItem sw r).pending = s.pending ∧ (s.acceptSweepItem sw r).bootStage = s.bootStage ∧
    (s.acceptSweepItem sw r).resetKind = s.resetKind ∧ (s.acceptSweepItem sw r).setupSel = s.setupSel ∧
    (s.acceptSweepItem sw r).evLevels = s.evLevels ∧ (s.acceptSweepItem sw r).ursp = s.ursp ∧
    (s.acceptSweepItem sw r).alert = s.alert ∧ (s.acceptSweepItem sw r).tick = s.tick ∧
    (s.acceptSweepItem sw r).cycles = s.cycles ∧ (s.acceptSweepItem sw r).partState = s.partState ∧
    (s.acceptSweepItem sw r).wasActive = s.wasActive ∧ (s.acceptSweepItem sw r).fellToDefault = s.fellToDefault ∧
    (s.acceptSweepItem sw r).boot = s.boot ∧ (s.acceptSweepItem sw r).live = s.live ∧
    (s.acceptSweepItem sw r).setup = s.setup ∧ (s.acceptSweepItem sw r).releaseClaim = s.releaseClaim ∧
    (s.acceptSweepItem sw r).statusEntry = s.statusEntry ∧
    (s.acceptSweepItem sw r).statusWritten = s.statusWritten ∧ (s.acceptSweepItem sw r).command = s.command ∧
    (s.acceptSweepItem sw r).commandEntry = s.commandEntry ∧
    (s.acceptSweepItem sw r).commandWritten = s.commandWritten ∧ (s.acceptSweepItem sw r).head = s.head ∧
    (s.acceptSweepItem sw r).tags = s.tags ∧ (s.acceptSweepItem sw r).passQueue = s.passQueue ∧
    (s.acceptSweepItem sw r).dreq = s.dreq ∧ (s.acceptSweepItem sw r).sweepQueue = s.sweepQueue ∧
    (s.acceptSweepItem sw r).intervals = s.intervals ∧ (s.acceptSweepItem sw r).intervalDue = s.intervalDue ∧
    (s.acceptSweepItem sw r).bindings = s.bindings ∧ (s.acceptSweepItem sw r).chord = s.chord ∧
    (s.acceptSweepItem sw r).levels = s.levels ∧ (s.acceptSweepItem sw r).inputs = s.inputs ∧
    (s.acceptSweepItem sw r).chordTimer = s.chordTimer ∧ (s.acceptSweepItem sw r).chordFired = s.chordFired ∧
    (s.acceptSweepItem sw r).servicePos = s.servicePos ∧ (s.acceptSweepItem sw r).eventClaim = s.eventClaim ∧
    (s.acceptSweepItem sw r).newCounts = s.newCounts ∧ (s.acceptSweepItem sw r).logStyle = s.logStyle ∧
    (s.acceptSweepItem sw r).logBase = s.logBase := by
  dsimp only [State.acceptSweepItem]
  (repeat' split) <;> simp

@[simp] theorem expireInterval_keeps (w : WindowNo) :
    (s.expireInterval w).pending = s.pending ∧ (s.expireInterval w).bootStage = s.bootStage ∧
    (s.expireInterval w).resetKind = s.resetKind ∧ (s.expireInterval w).setupSel = s.setupSel ∧
    (s.expireInterval w).evLevels = s.evLevels ∧ (s.expireInterval w).ursp = s.ursp ∧
    (s.expireInterval w).alert = s.alert ∧ (s.expireInterval w).tick = s.tick ∧
    (s.expireInterval w).cycles = s.cycles ∧ (s.expireInterval w).partState = s.partState ∧
    (s.expireInterval w).wasActive = s.wasActive ∧ (s.expireInterval w).fellToDefault = s.fellToDefault ∧
    (s.expireInterval w).boot = s.boot ∧ (s.expireInterval w).live = s.live ∧ (s.expireInterval w).setup = s.setup ∧
    (s.expireInterval w).releaseClaim = s.releaseClaim ∧ (s.expireInterval w).statusEntry = s.statusEntry ∧
    (s.expireInterval w).statusWritten = s.statusWritten ∧ (s.expireInterval w).command = s.command ∧
    (s.expireInterval w).commandEntry = s.commandEntry ∧ (s.expireInterval w).commandWritten = s.commandWritten ∧
    (s.expireInterval w).outstanding = s.outstanding ∧ (s.expireInterval w).head = s.head ∧
    (s.expireInterval w).responses = s.responses ∧ (s.expireInterval w).tags = s.tags ∧
    (s.expireInterval w).passQueue = s.passQueue ∧ (s.expireInterval w).dreq = s.dreq ∧
    (s.expireInterval w).windows = s.windows ∧ (s.expireInterval w).entries = s.entries ∧
    (s.expireInterval w).suspects = s.suspects ∧ (s.expireInterval w).engine = s.engine ∧
    (s.expireInterval w).bindings = s.bindings ∧ (s.expireInterval w).chord = s.chord ∧
    (s.expireInterval w).levels = s.levels ∧ (s.expireInterval w).inputs = s.inputs ∧
    (s.expireInterval w).chordTimer = s.chordTimer ∧ (s.expireInterval w).chordFired = s.chordFired ∧
    (s.expireInterval w).servicePos = s.servicePos ∧ (s.expireInterval w).eventClaim = s.eventClaim ∧
    (s.expireInterval w).newCounts = s.newCounts ∧ (s.expireInterval w).logStyle = s.logStyle ∧
    (s.expireInterval w).logBase = s.logBase := by
  dsimp only [State.expireInterval]
  (repeat' split) <;> simp

end Sys2Proof.Machine
end

