-- ==== Sys2Proof/Laws/Settings.lean ====
section
/-!
SUPPORT. What judging the settings leaves as it is.
-/

namespace Sys2Proof.Machine

variable (s : State)

@[simp] theorem applyBootLine_keeps (x : SetupSlot) :
    (s.applyBootLine x).pending = s.pending ∧ (s.applyBootLine x).bootStage = s.bootStage ∧
    (s.applyBootLine x).resetKind = s.resetKind ∧ (s.applyBootLine x).setupSel = s.setupSel ∧
    (s.applyBootLine x).evLevels = s.evLevels ∧ (s.applyBootLine x).ursp = s.ursp ∧
    (s.applyBootLine x).alert = s.alert ∧ (s.applyBootLine x).tick = s.tick ∧
    (s.applyBootLine x).cycles = s.cycles ∧ (s.applyBootLine x).partState = s.partState ∧
    (s.applyBootLine x).wasActive = s.wasActive ∧ (s.applyBootLine x).live = s.live ∧
    (s.applyBootLine x).setup = s.setup ∧ (s.applyBootLine x).releaseClaim = s.releaseClaim ∧
    (s.applyBootLine x).statusEntry = s.statusEntry ∧ (s.applyBootLine x).statusWritten = s.statusWritten ∧
    (s.applyBootLine x).command = s.command ∧ (s.applyBootLine x).commandEntry = s.commandEntry ∧
    (s.applyBootLine x).commandWritten = s.commandWritten ∧ (s.applyBootLine x).outstanding = s.outstanding ∧
    (s.applyBootLine x).head = s.head ∧ (s.applyBootLine x).responses = s.responses ∧
    (s.applyBootLine x).tags = s.tags ∧ (s.applyBootLine x).passQueue = s.passQueue ∧
    (s.applyBootLine x).dreq = s.dreq ∧ (s.applyBootLine x).windows = s.windows ∧
    (s.applyBootLine x).entries = s.entries ∧ (s.applyBootLine x).suspects = s.suspects ∧
    (s.applyBootLine x).sweepQueue = s.sweepQueue ∧ (s.applyBootLine x).engine = s.engine ∧
    (s.applyBootLine x).intervals = s.intervals ∧ (s.applyBootLine x).intervalDue = s.intervalDue ∧
    (s.applyBootLine x).bindings = s.bindings ∧ (s.applyBootLine x).chord = s.chord ∧
    (s.applyBootLine x).levels = s.levels ∧ (s.applyBootLine x).inputs = s.inputs ∧
    (s.applyBootLine x).chordTimer = s.chordTimer ∧ (s.applyBootLine x).chordFired = s.chordFired ∧
    (s.applyBootLine x).servicePos = s.servicePos ∧ (s.applyBootLine x).eventClaim = s.eventClaim ∧
    (s.applyBootLine x).newCounts = s.newCounts ∧ (s.applyBootLine x).logStyle = s.logStyle ∧
    (s.applyBootLine x).logBase = s.logBase := by
  dsimp only [State.applyBootLine]
  (repeat' split) <;> simp

@[simp] theorem applyLogLine_keeps (x : SetupSlot) :
    (s.applyLogLine x).pending = s.pending ∧ (s.applyLogLine x).bootStage = s.bootStage ∧
    (s.applyLogLine x).resetKind = s.resetKind ∧ (s.applyLogLine x).setupSel = s.setupSel ∧
    (s.applyLogLine x).evLevels = s.evLevels ∧ (s.applyLogLine x).ursp = s.ursp ∧
    (s.applyLogLine x).alert = s.alert ∧ (s.applyLogLine x).tick = s.tick ∧ (s.applyLogLine x).cycles = s.cycles ∧
    (s.applyLogLine x).partState = s.partState ∧ (s.applyLogLine x).wasActive = s.wasActive ∧
    (s.applyLogLine x).boot = s.boot ∧ (s.applyLogLine x).live = s.live ∧ (s.applyLogLine x).setup = s.setup ∧
    (s.applyLogLine x).releaseClaim = s.releaseClaim ∧ (s.applyLogLine x).statusEntry = s.statusEntry ∧
    (s.applyLogLine x).statusWritten = s.statusWritten ∧ (s.applyLogLine x).command = s.command ∧
    (s.applyLogLine x).commandEntry = s.commandEntry ∧ (s.applyLogLine x).commandWritten = s.commandWritten ∧
    (s.applyLogLine x).outstanding = s.outstanding ∧ (s.applyLogLine x).head = s.head ∧
    (s.applyLogLine x).responses = s.responses ∧ (s.applyLogLine x).tags = s.tags ∧
    (s.applyLogLine x).passQueue = s.passQueue ∧ (s.applyLogLine x).dreq = s.dreq ∧
    (s.applyLogLine x).windows = s.windows ∧ (s.applyLogLine x).entries = s.entries ∧
    (s.applyLogLine x).suspects = s.suspects ∧ (s.applyLogLine x).sweepQueue = s.sweepQueue ∧
    (s.applyLogLine x).engine = s.engine ∧ (s.applyLogLine x).intervals = s.intervals ∧
    (s.applyLogLine x).intervalDue = s.intervalDue ∧ (s.applyLogLine x).bindings = s.bindings ∧
    (s.applyLogLine x).chord = s.chord ∧ (s.applyLogLine x).levels = s.levels ∧
    (s.applyLogLine x).inputs = s.inputs ∧ (s.applyLogLine x).chordTimer = s.chordTimer ∧
    (s.applyLogLine x).chordFired = s.chordFired ∧ (s.applyLogLine x).servicePos = s.servicePos ∧
    (s.applyLogLine x).eventClaim = s.eventClaim ∧ (s.applyLogLine x).newCounts = s.newCounts := by
  dsimp only [State.applyLogLine]
  (repeat' split) <;> simp

@[simp] theorem applyBootSettings_keeps :
    (s.applyBootSettings).pending = s.pending ∧ (s.applyBootSettings).resetKind = s.resetKind ∧
    (s.applyBootSettings).setupSel = s.setupSel ∧ (s.applyBootSettings).evLevels = s.evLevels ∧
    (s.applyBootSettings).ursp = s.ursp ∧ (s.applyBootSettings).alert = s.alert ∧
    (s.applyBootSettings).tick = s.tick ∧ (s.applyBootSettings).cycles = s.cycles ∧
    (s.applyBootSettings).partState = s.partState ∧ (s.applyBootSettings).wasActive = s.wasActive ∧
    (s.applyBootSettings).live = s.live ∧ (s.applyBootSettings).setup = s.setup ∧
    (s.applyBootSettings).releaseClaim = s.releaseClaim ∧ (s.applyBootSettings).statusEntry = s.statusEntry ∧
    (s.applyBootSettings).statusWritten = s.statusWritten ∧ (s.applyBootSettings).command = s.command ∧
    (s.applyBootSettings).commandEntry = s.commandEntry ∧ (s.applyBootSettings).commandWritten = s.commandWritten ∧
    (s.applyBootSettings).outstanding = s.outstanding ∧ (s.applyBootSettings).head = s.head ∧
    (s.applyBootSettings).responses = s.responses ∧ (s.applyBootSettings).tags = s.tags ∧
    (s.applyBootSettings).passQueue = s.passQueue ∧ (s.applyBootSettings).dreq = s.dreq ∧
    (s.applyBootSettings).windows = s.windows ∧ (s.applyBootSettings).entries = s.entries ∧
    (s.applyBootSettings).suspects = s.suspects ∧ (s.applyBootSettings).sweepQueue = s.sweepQueue ∧
    (s.applyBootSettings).engine = s.engine ∧ (s.applyBootSettings).intervals = s.intervals ∧
    (s.applyBootSettings).intervalDue = s.intervalDue ∧ (s.applyBootSettings).bindings = s.bindings ∧
    (s.applyBootSettings).chord = s.chord ∧ (s.applyBootSettings).levels = s.levels ∧
    (s.applyBootSettings).inputs = s.inputs ∧ (s.applyBootSettings).chordTimer = s.chordTimer ∧
    (s.applyBootSettings).chordFired = s.chordFired ∧ (s.applyBootSettings).servicePos = s.servicePos ∧
    (s.applyBootSettings).eventClaim = s.eventClaim ∧ (s.applyBootSettings).newCounts = s.newCounts := by
  simp [State.applyBootSettings]

@[simp] theorem startStatus_keeps :
    (s.startStatus).pending = s.pending ∧ (s.startStatus).bootStage = s.bootStage ∧
    (s.startStatus).resetKind = s.resetKind ∧ (s.startStatus).setupSel = s.setupSel ∧
    (s.startStatus).evLevels = s.evLevels ∧ (s.startStatus).ursp = s.ursp ∧ (s.startStatus).alert = s.alert ∧
    (s.startStatus).tick = s.tick ∧ (s.startStatus).cycles = s.cycles ∧ (s.startStatus).partState = s.partState ∧
    (s.startStatus).wasActive = s.wasActive ∧ (s.startStatus).fellToDefault = s.fellToDefault ∧
    (s.startStatus).boot = s.boot ∧ (s.startStatus).live = s.live ∧ (s.startStatus).setup = s.setup ∧
    (s.startStatus).releaseClaim = s.releaseClaim ∧ (s.startStatus).statusEntry = s.statusEntry ∧
    (s.startStatus).statusWritten = s.statusWritten ∧ (s.startStatus).command = s.command ∧
    (s.startStatus).commandEntry = s.commandEntry ∧ (s.startStatus).commandWritten = s.commandWritten ∧
    (s.startStatus).outstanding = s.outstanding ∧ (s.startStatus).head = s.head ∧
    (s.startStatus).responses = s.responses ∧ (s.startStatus).tags = s.tags ∧
    (s.startStatus).passQueue = s.passQueue ∧ (s.startStatus).dreq = s.dreq ∧ (s.startStatus).windows = s.windows ∧
    (s.startStatus).entries = s.entries ∧ (s.startStatus).suspects = s.suspects ∧
    (s.startStatus).sweepQueue = s.sweepQueue ∧ (s.startStatus).engine = s.engine ∧
    (s.startStatus).intervals = s.intervals ∧ (s.startStatus).intervalDue = s.intervalDue ∧
    (s.startStatus).bindings = s.bindings ∧ (s.startStatus).chord = s.chord ∧ (s.startStatus).levels = s.levels ∧
    (s.startStatus).inputs = s.inputs ∧ (s.startStatus).chordTimer = s.chordTimer ∧
    (s.startStatus).chordFired = s.chordFired ∧ (s.startStatus).servicePos = s.servicePos ∧
    (s.startStatus).eventClaim = s.eventClaim ∧ (s.startStatus).newCounts = s.newCounts ∧
    (s.startStatus).logStyle = s.logStyle ∧ (s.startStatus).logBase = s.logBase ∧
    (s.startStatus).logQueue = s.logQueue := by
  dsimp only [State.startStatus]
  (repeat' split) <;> simp

@[simp] theorem foldl_takeIncident_keeps (is : List Incident) :
    (is.foldl State.takeIncident s).pending = s.pending ∧ (is.foldl State.takeIncident s).bootStage = s.bootStage ∧
    (is.foldl State.takeIncident s).resetKind = s.resetKind ∧
    (is.foldl State.takeIncident s).setupSel = s.setupSel ∧ (is.foldl State.takeIncident s).evLevels = s.evLevels ∧
    (is.foldl State.takeIncident s).ursp = s.ursp ∧ (is.foldl State.takeIncident s).alert = s.alert ∧
    (is.foldl State.takeIncident s).tick = s.tick ∧ (is.foldl State.takeIncident s).cycles = s.cycles ∧
    (is.foldl State.takeIncident s).partState = s.partState ∧
    (is.foldl State.takeIncident s).wasActive = s.wasActive ∧
    (is.foldl State.takeIncident s).fellToDefault = s.fellToDefault ∧
    (is.foldl State.takeIncident s).boot = s.boot ∧ (is.foldl State.takeIncident s).live = s.live ∧
    (is.foldl State.takeIncident s).setup = s.setup ∧
    (is.foldl State.takeIncident s).releaseClaim = s.releaseClaim ∧
    (is.foldl State.takeIncident s).statusEntry = s.statusEntry ∧
    (is.foldl State.takeIncident s).statusWritten = s.statusWritten ∧
    (is.foldl State.takeIncident s).command = s.command ∧
    (is.foldl State.takeIncident s).commandEntry = s.commandEntry ∧
    (is.foldl State.takeIncident s).commandWritten = s.commandWritten ∧
    (is.foldl State.takeIncident s).outstanding = s.outstanding ∧ (is.foldl State.takeIncident s).head = s.head ∧
    (is.foldl State.takeIncident s).responses = s.responses ∧ (is.foldl State.takeIncident s).tags = s.tags ∧
    (is.foldl State.takeIncident s).passQueue = s.passQueue ∧ (is.foldl State.takeIncident s).dreq = s.dreq ∧
    (is.foldl State.takeIncident s).windows = s.windows ∧ (is.foldl State.takeIncident s).entries = s.entries ∧
    (is.foldl State.takeIncident s).suspects = s.suspects ∧
    (is.foldl State.takeIncident s).sweepQueue = s.sweepQueue ∧ (is.foldl State.takeIncident s).engine = s.engine ∧
    (is.foldl State.takeIncident s).intervals = s.intervals ∧
    (is.foldl State.takeIncident s).intervalDue = s.intervalDue ∧
    (is.foldl State.takeIncident s).bindings = s.bindings ∧ (is.foldl State.takeIncident s).chord = s.chord ∧
    (is.foldl State.takeIncident s).levels = s.levels ∧ (is.foldl State.takeIncident s).inputs = s.inputs ∧
    (is.foldl State.takeIncident s).chordTimer = s.chordTimer ∧
    (is.foldl State.takeIncident s).chordFired = s.chordFired ∧
    (is.foldl State.takeIncident s).servicePos = s.servicePos ∧
    (is.foldl State.takeIncident s).eventClaim = s.eventClaim ∧
    (is.foldl State.takeIncident s).newCounts = s.newCounts ∧
    (is.foldl State.takeIncident s).logStyle = s.logStyle ∧ (is.foldl State.takeIncident s).logBase = s.logBase := by
  induction is generalizing s with
  | nil => simp
  | cons x xs ih => simp [ih]

@[simp] theorem formPinned_keeps :
    (s.formPinned).pending = s.pending ∧ (s.formPinned).resetKind = s.resetKind ∧
    (s.formPinned).setupSel = s.setupSel ∧ (s.formPinned).evLevels = s.evLevels ∧ (s.formPinned).ursp = s.ursp ∧
    (s.formPinned).alert = s.alert ∧ (s.formPinned).tick = s.tick ∧ (s.formPinned).cycles = s.cycles ∧
    (s.formPinned).partState = s.partState ∧ (s.formPinned).wasActive = s.wasActive ∧
    (s.formPinned).fellToDefault = s.fellToDefault ∧ (s.formPinned).boot = s.boot ∧ (s.formPinned).live = s.live ∧
    (s.formPinned).setup = s.setup ∧ (s.formPinned).releaseClaim = s.releaseClaim ∧
    (s.formPinned).outstanding = s.outstanding ∧ (s.formPinned).head = s.head ∧
    (s.formPinned).responses = s.responses ∧ (s.formPinned).tags = s.tags ∧ (s.formPinned).passQueue = s.passQueue ∧
    (s.formPinned).dreq = s.dreq ∧ (s.formPinned).windows = s.windows ∧ (s.formPinned).entries = s.entries ∧
    (s.formPinned).suspects = s.suspects ∧ (s.formPinned).sweepQueue = s.sweepQueue ∧
    (s.formPinned).engine = s.engine ∧ (s.formPinned).intervals = s.intervals ∧
    (s.formPinned).intervalDue = s.intervalDue ∧ (s.formPinned).bindings = s.bindings ∧
    (s.formPinned).chord = s.chord ∧ (s.formPinned).levels = s.levels ∧ (s.formPinned).inputs = s.inputs ∧
    (s.formPinned).chordTimer = s.chordTimer ∧ (s.formPinned).chordFired = s.chordFired ∧
    (s.formPinned).servicePos = s.servicePos ∧ (s.formPinned).eventClaim = s.eventClaim ∧
    (s.formPinned).newCounts = s.newCounts ∧ (s.formPinned).logStyle = s.logStyle ∧
    (s.formPinned).logBase = s.logBase := by
  simp [State.formPinned]

@[simp] theorem enterLoading_keeps :
    (s.enterLoading).pending = s.pending ∧ (s.enterLoading).bootStage = s.bootStage ∧
    (s.enterLoading).resetKind = s.resetKind ∧ (s.enterLoading).setupSel = s.setupSel ∧
    (s.enterLoading).evLevels = s.evLevels ∧ (s.enterLoading).ursp = s.ursp ∧ (s.enterLoading).alert = s.alert ∧
    (s.enterLoading).tick = s.tick ∧ (s.enterLoading).cycles = s.cycles ∧ (s.enterLoading).wasActive = s.wasActive ∧
    (s.enterLoading).boot = s.boot ∧ (s.enterLoading).live = s.live ∧
    (s.enterLoading).releaseClaim = s.releaseClaim ∧ (s.enterLoading).statusEntry = s.statusEntry ∧
    (s.enterLoading).statusWritten = s.statusWritten ∧ (s.enterLoading).command = s.command ∧
    (s.enterLoading).commandEntry = s.commandEntry ∧ (s.enterLoading).commandWritten = s.commandWritten ∧
    (s.enterLoading).outstanding = s.outstanding ∧ (s.enterLoading).head = s.head ∧
    (s.enterLoading).responses = s.responses ∧ (s.enterLoading).tags = s.tags ∧
    (s.enterLoading).passQueue = s.passQueue ∧ (s.enterLoading).dreq = s.dreq ∧
    (s.enterLoading).windows = s.windows ∧ (s.enterLoading).entries = s.entries ∧
    (s.enterLoading).suspects = s.suspects ∧ (s.enterLoading).sweepQueue = s.sweepQueue ∧
    (s.enterLoading).engine = s.engine ∧ (s.enterLoading).intervals = s.intervals ∧
    (s.enterLoading).intervalDue = s.intervalDue ∧ (s.enterLoading).bindings = s.bindings ∧
    (s.enterLoading).chord = s.chord ∧ (s.enterLoading).levels = s.levels ∧ (s.enterLoading).inputs = s.inputs ∧
    (s.enterLoading).chordTimer = s.chordTimer ∧ (s.enterLoading).chordFired = s.chordFired ∧
    (s.enterLoading).servicePos = s.servicePos ∧ (s.enterLoading).eventClaim = s.eventClaim ∧
    (s.enterLoading).newCounts = s.newCounts ∧ (s.enterLoading).logStyle = s.logStyle ∧
    (s.enterLoading).logBase = s.logBase := by
  simp [State.enterLoading]

@[simp] theorem judgeMasks_keeps :
    (s.judgeMasks).pending = s.pending ∧ (s.judgeMasks).bootStage = s.bootStage ∧
    (s.judgeMasks).resetKind = s.resetKind ∧ (s.judgeMasks).setupSel = s.setupSel ∧
    (s.judgeMasks).evLevels = s.evLevels ∧ (s.judgeMasks).ursp = s.ursp ∧ (s.judgeMasks).alert = s.alert ∧
    (s.judgeMasks).tick = s.tick ∧ (s.judgeMasks).cycles = s.cycles ∧ (s.judgeMasks).partState = s.partState ∧
    (s.judgeMasks).wasActive = s.wasActive ∧ (s.judgeMasks).boot = s.boot ∧ (s.judgeMasks).setup = s.setup ∧
    (s.judgeMasks).releaseClaim = s.releaseClaim ∧ (s.judgeMasks).statusEntry = s.statusEntry ∧
    (s.judgeMasks).statusWritten = s.statusWritten ∧ (s.judgeMasks).command = s.command ∧
    (s.judgeMasks).commandEntry = s.commandEntry ∧ (s.judgeMasks).commandWritten = s.commandWritten ∧
    (s.judgeMasks).outstanding = s.outstanding ∧ (s.judgeMasks).head = s.head ∧
    (s.judgeMasks).responses = s.responses ∧ (s.judgeMasks).tags = s.tags ∧ (s.judgeMasks).passQueue = s.passQueue ∧
    (s.judgeMasks).dreq = s.dreq ∧ (s.judgeMasks).windows = s.windows ∧ (s.judgeMasks).entries = s.entries ∧
    (s.judgeMasks).suspects = s.suspects ∧ (s.judgeMasks).sweepQueue = s.sweepQueue ∧
    (s.judgeMasks).engine = s.engine ∧ (s.judgeMasks).intervals = s.intervals ∧
    (s.judgeMasks).intervalDue = s.intervalDue ∧ (s.judgeMasks).bindings = s.bindings ∧
    (s.judgeMasks).chord = s.chord ∧ (s.judgeMasks).levels = s.levels ∧ (s.judgeMasks).inputs = s.inputs ∧
    (s.judgeMasks).chordTimer = s.chordTimer ∧ (s.judgeMasks).chordFired = s.chordFired ∧
    (s.judgeMasks).servicePos = s.servicePos ∧ (s.judgeMasks).eventClaim = s.eventClaim ∧
    (s.judgeMasks).newCounts = s.newCounts ∧ (s.judgeMasks).logStyle = s.logStyle ∧
    (s.judgeMasks).logBase = s.logBase := by
  dsimp only [State.judgeMasks]
  (repeat' split) <;> simp

@[simp] theorem judgeInterval_keeps (w : WindowNo) :
    (s.judgeInterval w).pending = s.pending ∧ (s.judgeInterval w).bootStage = s.bootStage ∧
    (s.judgeInterval w).resetKind = s.resetKind ∧ (s.judgeInterval w).setupSel = s.setupSel ∧
    (s.judgeInterval w).evLevels = s.evLevels ∧ (s.judgeInterval w).ursp = s.ursp ∧
    (s.judgeInterval w).alert = s.alert ∧ (s.judgeInterval w).tick = s.tick ∧
    (s.judgeInterval w).cycles = s.cycles ∧ (s.judgeInterval w).partState = s.partState ∧
    (s.judgeInterval w).wasActive = s.wasActive ∧ (s.judgeInterval w).boot = s.boot ∧
    (s.judgeInterval w).live = s.live ∧ (s.judgeInterval w).setup = s.setup ∧
    (s.judgeInterval w).releaseClaim = s.releaseClaim ∧ (s.judgeInterval w).statusEntry = s.statusEntry ∧
    (s.judgeInterval w).statusWritten = s.statusWritten ∧ (s.judgeInterval w).command = s.command ∧
    (s.judgeInterval w).commandEntry = s.commandEntry ∧ (s.judgeInterval w).commandWritten = s.commandWritten ∧
    (s.judgeInterval w).outstanding = s.outstanding ∧ (s.judgeInterval w).head = s.head ∧
    (s.judgeInterval w).responses = s.responses ∧ (s.judgeInterval w).tags = s.tags ∧
    (s.judgeInterval w).passQueue = s.passQueue ∧ (s.judgeInterval w).dreq = s.dreq ∧
    (s.judgeInterval w).windows = s.windows ∧ (s.judgeInterval w).entries = s.entries ∧
    (s.judgeInterval w).suspects = s.suspects ∧ (s.judgeInterval w).sweepQueue = s.sweepQueue ∧
    (s.judgeInterval w).engine = s.engine ∧ (s.judgeInterval w).intervals = s.intervals ∧
    (s.judgeInterval w).intervalDue = s.intervalDue ∧ (s.judgeInterval w).bindings = s.bindings ∧
    (s.judgeInterval w).chord = s.chord ∧ (s.judgeInterval w).levels = s.levels ∧
    (s.judgeInterval w).inputs = s.inputs ∧ (s.judgeInterval w).chordTimer = s.chordTimer ∧
    (s.judgeInterval w).chordFired = s.chordFired ∧ (s.judgeInterval w).servicePos = s.servicePos ∧
    (s.judgeInterval w).eventClaim = s.eventClaim ∧ (s.judgeInterval w).newCounts = s.newCounts ∧
    (s.judgeInterval w).logStyle = s.logStyle ∧ (s.judgeInterval w).logBase = s.logBase := by
  dsimp only [State.judgeInterval]
  (repeat' split) <;> simp

@[simp] theorem foldl_judgeInterval_keeps (ws : List WindowNo) :
    (ws.foldl State.judgeInterval s).pending = s.pending ∧
    (ws.foldl State.judgeInterval s).bootStage = s.bootStage ∧
    (ws.foldl State.judgeInterval s).resetKind = s.resetKind ∧
    (ws.foldl State.judgeInterval s).setupSel = s.setupSel ∧
    (ws.foldl State.judgeInterval s).evLevels = s.evLevels ∧ (ws.foldl State.judgeInterval s).ursp = s.ursp ∧
    (ws.foldl State.judgeInterval s).alert = s.alert ∧ (ws.foldl State.judgeInterval s).tick = s.tick ∧
    (ws.foldl State.judgeInterval s).cycles = s.cycles ∧ (ws.foldl State.judgeInterval s).partState = s.partState ∧
    (ws.foldl State.judgeInterval s).wasActive = s.wasActive ∧ (ws.foldl State.judgeInterval s).boot = s.boot ∧
    (ws.foldl State.judgeInterval s).live = s.live ∧ (ws.foldl State.judgeInterval s).setup = s.setup ∧
    (ws.foldl State.judgeInterval s).releaseClaim = s.releaseClaim ∧
    (ws.foldl State.judgeInterval s).statusEntry = s.statusEntry ∧
    (ws.foldl State.judgeInterval s).statusWritten = s.statusWritten ∧
    (ws.foldl State.judgeInterval s).command = s.command ∧
    (ws.foldl State.judgeInterval s).commandEntry = s.commandEntry ∧
    (ws.foldl State.judgeInterval s).commandWritten = s.commandWritten ∧
    (ws.foldl State.judgeInterval s).outstanding = s.outstanding ∧ (ws.foldl State.judgeInterval s).head = s.head ∧
    (ws.foldl State.judgeInterval s).responses = s.responses ∧ (ws.foldl State.judgeInterval s).tags = s.tags ∧
    (ws.foldl State.judgeInterval s).passQueue = s.passQueue ∧ (ws.foldl State.judgeInterval s).dreq = s.dreq ∧
    (ws.foldl State.judgeInterval s).windows = s.windows ∧ (ws.foldl State.judgeInterval s).entries = s.entries ∧
    (ws.foldl State.judgeInterval s).suspects = s.suspects ∧
    (ws.foldl State.judgeInterval s).sweepQueue = s.sweepQueue ∧
    (ws.foldl State.judgeInterval s).engine = s.engine ∧ (ws.foldl State.judgeInterval s).intervals = s.intervals ∧
    (ws.foldl State.judgeInterval s).intervalDue = s.intervalDue ∧
    (ws.foldl State.judgeInterval s).bindings = s.bindings ∧ (ws.foldl State.judgeInterval s).chord = s.chord ∧
    (ws.foldl State.judgeInterval s).levels = s.levels ∧ (ws.foldl State.judgeInterval s).inputs = s.inputs ∧
    (ws.foldl State.judgeInterval s).chordTimer = s.chordTimer ∧
    (ws.foldl State.judgeInterval s).chordFired = s.chordFired ∧
    (ws.foldl State.judgeInterval s).servicePos = s.servicePos ∧
    (ws.foldl State.judgeInterval s).eventClaim = s.eventClaim ∧
    (ws.foldl State.judgeInterval s).newCounts = s.newCounts ∧
    (ws.foldl State.judgeInterval s).logStyle = s.logStyle ∧ (ws.foldl State.judgeInterval s).logBase = s.logBase := by
  induction ws generalizing s with
  | nil => simp
  | cons x xs ih => simp [ih]

@[simp] theorem judgeIntervals_keeps :
    (s.judgeIntervals).pending = s.pending ∧ (s.judgeIntervals).bootStage = s.bootStage ∧
    (s.judgeIntervals).resetKind = s.resetKind ∧ (s.judgeIntervals).setupSel = s.setupSel ∧
    (s.judgeIntervals).evLevels = s.evLevels ∧ (s.judgeIntervals).ursp = s.ursp ∧
    (s.judgeIntervals).alert = s.alert ∧ (s.judgeIntervals).tick = s.tick ∧ (s.judgeIntervals).cycles = s.cycles ∧
    (s.judgeIntervals).partState = s.partState ∧ (s.judgeIntervals).wasActive = s.wasActive ∧
    (s.judgeIntervals).boot = s.boot ∧ (s.judgeIntervals).setup = s.setup ∧
    (s.judgeIntervals).releaseClaim = s.releaseClaim ∧ (s.judgeIntervals).statusEntry = s.statusEntry ∧
    (s.judgeIntervals).statusWritten = s.statusWritten ∧ (s.judgeIntervals).command = s.command ∧
    (s.judgeIntervals).commandEntry = s.commandEntry ∧ (s.judgeIntervals).commandWritten = s.commandWritten ∧
    (s.judgeIntervals).outstanding = s.outstanding ∧ (s.judgeIntervals).head = s.head ∧
    (s.judgeIntervals).responses = s.responses ∧ (s.judgeIntervals).tags = s.tags ∧
    (s.judgeIntervals).passQueue = s.passQueue ∧ (s.judgeIntervals).dreq = s.dreq ∧
    (s.judgeIntervals).windows = s.windows ∧ (s.judgeIntervals).entries = s.entries ∧
    (s.judgeIntervals).suspects = s.suspects ∧ (s.judgeIntervals).sweepQueue = s.sweepQueue ∧
    (s.judgeIntervals).engine = s.engine ∧ (s.judgeIntervals).intervals = s.intervals ∧
    (s.judgeIntervals).intervalDue = s.intervalDue ∧ (s.judgeIntervals).bindings = s.bindings ∧
    (s.judgeIntervals).chord = s.chord ∧ (s.judgeIntervals).levels = s.levels ∧
    (s.judgeIntervals).inputs = s.inputs ∧ (s.judgeIntervals).chordTimer = s.chordTimer ∧
    (s.judgeIntervals).chordFired = s.chordFired ∧ (s.judgeIntervals).servicePos = s.servicePos ∧
    (s.judgeIntervals).eventClaim = s.eventClaim ∧ (s.judgeIntervals).newCounts = s.newCounts ∧
    (s.judgeIntervals).logStyle = s.logStyle ∧ (s.judgeIntervals).logBase = s.logBase := by
  dsimp only [State.judgeIntervals]
  (repeat' split) <;> simp

@[simp] theorem disableWindow_keeps (w : WindowNo) (c : BitVec 32) :
    (s.disableWindow w c).pending = s.pending ∧ (s.disableWindow w c).bootStage = s.bootStage ∧
    (s.disableWindow w c).resetKind = s.resetKind ∧ (s.disableWindow w c).setupSel = s.setupSel ∧
    (s.disableWindow w c).evLevels = s.evLevels ∧ (s.disableWindow w c).ursp = s.ursp ∧
    (s.disableWindow w c).alert = s.alert ∧ (s.disableWindow w c).tick = s.tick ∧
    (s.disableWindow w c).cycles = s.cycles ∧ (s.disableWindow w c).partState = s.partState ∧
    (s.disableWindow w c).wasActive = s.wasActive ∧ (s.disableWindow w c).boot = s.boot ∧
    (s.disableWindow w c).live = s.live ∧ (s.disableWindow w c).setup = s.setup ∧
    (s.disableWindow w c).releaseClaim = s.releaseClaim ∧ (s.disableWindow w c).statusEntry = s.statusEntry ∧
    (s.disableWindow w c).statusWritten = s.statusWritten ∧ (s.disableWindow w c).command = s.command ∧
    (s.disableWindow w c).commandEntry = s.commandEntry ∧ (s.disableWindow w c).commandWritten = s.commandWritten ∧
    (s.disableWindow w c).outstanding = s.outstanding ∧ (s.disableWindow w c).head = s.head ∧
    (s.disableWindow w c).responses = s.responses ∧ (s.disableWindow w c).tags = s.tags ∧
    (s.disableWindow w c).passQueue = s.passQueue ∧ (s.disableWindow w c).dreq = s.dreq ∧
    (s.disableWindow w c).windows = s.windows ∧ (s.disableWindow w c).entries = s.entries ∧
    (s.disableWindow w c).suspects = s.suspects ∧ (s.disableWindow w c).sweepQueue = s.sweepQueue ∧
    (s.disableWindow w c).engine = s.engine ∧ (s.disableWindow w c).intervals = s.intervals ∧
    (s.disableWindow w c).intervalDue = s.intervalDue ∧ (s.disableWindow w c).bindings = s.bindings ∧
    (s.disableWindow w c).chord = s.chord ∧ (s.disableWindow w c).levels = s.levels ∧
    (s.disableWindow w c).inputs = s.inputs ∧ (s.disableWindow w c).chordTimer = s.chordTimer ∧
    (s.disableWindow w c).chordFired = s.chordFired ∧ (s.disableWindow w c).servicePos = s.servicePos ∧
    (s.disableWindow w c).eventClaim = s.eventClaim ∧ (s.disableWindow w c).newCounts = s.newCounts ∧
    (s.disableWindow w c).logStyle = s.logStyle ∧ (s.disableWindow w c).logBase = s.logBase := by
  simp [State.disableWindow]

@[simp] theorem judgeWindow_keeps (w : WindowNo) :
    (s.judgeWindow w).pending = s.pending ∧ (s.judgeWindow w).bootStage = s.bootStage ∧
    (s.judgeWindow w).resetKind = s.resetKind ∧ (s.judgeWindow w).setupSel = s.setupSel ∧
    (s.judgeWindow w).evLevels = s.evLevels ∧ (s.judgeWindow w).ursp = s.ursp ∧ (s.judgeWindow w).alert = s.alert ∧
    (s.judgeWindow w).tick = s.tick ∧ (s.judgeWindow w).cycles = s.cycles ∧
    (s.judgeWindow w).partState = s.partState ∧ (s.judgeWindow w).wasActive = s.wasActive ∧
    (s.judgeWindow w).boot = s.boot ∧ (s.judgeWindow w).live = s.live ∧ (s.judgeWindow w).setup = s.setup ∧
    (s.judgeWindow w).releaseClaim = s.releaseClaim ∧ (s.judgeWindow w).statusEntry = s.statusEntry ∧
    (s.judgeWindow w).statusWritten = s.statusWritten ∧ (s.judgeWindow w).command = s.command ∧
    (s.judgeWindow w).commandEntry = s.commandEntry ∧ (s.judgeWindow w).commandWritten = s.commandWritten ∧
    (s.judgeWindow w).outstanding = s.outstanding ∧ (s.judgeWindow w).head = s.head ∧
    (s.judgeWindow w).responses = s.responses ∧ (s.judgeWindow w).tags = s.tags ∧
    (s.judgeWindow w).passQueue = s.passQueue ∧ (s.judgeWindow w).dreq = s.dreq ∧
    (s.judgeWindow w).entries = s.entries ∧ (s.judgeWindow w).suspects = s.suspects ∧
    (s.judgeWindow w).sweepQueue = s.sweepQueue ∧ (s.judgeWindow w).engine = s.engine ∧
    (s.judgeWindow w).intervals = s.intervals ∧ (s.judgeWindow w).intervalDue = s.intervalDue ∧
    (s.judgeWindow w).bindings = s.bindings ∧ (s.judgeWindow w).chord = s.chord ∧
    (s.judgeWindow w).levels = s.levels ∧ (s.judgeWindow w).inputs = s.inputs ∧
    (s.judgeWindow w).chordTimer = s.chordTimer ∧ (s.judgeWindow w).chordFired = s.chordFired ∧
    (s.judgeWindow w).servicePos = s.servicePos ∧ (s.judgeWindow w).eventClaim = s.eventClaim ∧
    (s.judgeWindow w).newCounts = s.newCounts ∧ (s.judgeWindow w).logStyle = s.logStyle ∧
    (s.judgeWindow w).logBase = s.logBase := by
  dsimp only [State.judgeWindow]
  (repeat' split) <;> simp

@[simp] theorem foldl_judgeWindow_keeps (ws : List WindowNo) :
    (ws.foldl State.judgeWindow s).pending = s.pending ∧ (ws.foldl State.judgeWindow s).bootStage = s.bootStage ∧
    (ws.foldl State.judgeWindow s).resetKind = s.resetKind ∧ (ws.foldl State.judgeWindow s).setupSel = s.setupSel ∧
    (ws.foldl State.judgeWindow s).evLevels = s.evLevels ∧ (ws.foldl State.judgeWindow s).ursp = s.ursp ∧
    (ws.foldl State.judgeWindow s).alert = s.alert ∧ (ws.foldl State.judgeWindow s).tick = s.tick ∧
    (ws.foldl State.judgeWindow s).cycles = s.cycles ∧ (ws.foldl State.judgeWindow s).partState = s.partState ∧
    (ws.foldl State.judgeWindow s).wasActive = s.wasActive ∧ (ws.foldl State.judgeWindow s).boot = s.boot ∧
    (ws.foldl State.judgeWindow s).live = s.live ∧ (ws.foldl State.judgeWindow s).setup = s.setup ∧
    (ws.foldl State.judgeWindow s).releaseClaim = s.releaseClaim ∧
    (ws.foldl State.judgeWindow s).statusEntry = s.statusEntry ∧
    (ws.foldl State.judgeWindow s).statusWritten = s.statusWritten ∧
    (ws.foldl State.judgeWindow s).command = s.command ∧
    (ws.foldl State.judgeWindow s).commandEntry = s.commandEntry ∧
    (ws.foldl State.judgeWindow s).commandWritten = s.commandWritten ∧
    (ws.foldl State.judgeWindow s).outstanding = s.outstanding ∧ (ws.foldl State.judgeWindow s).head = s.head ∧
    (ws.foldl State.judgeWindow s).responses = s.responses ∧ (ws.foldl State.judgeWindow s).tags = s.tags ∧
    (ws.foldl State.judgeWindow s).passQueue = s.passQueue ∧ (ws.foldl State.judgeWindow s).dreq = s.dreq ∧
    (ws.foldl State.judgeWindow s).entries = s.entries ∧ (ws.foldl State.judgeWindow s).suspects = s.suspects ∧
    (ws.foldl State.judgeWindow s).sweepQueue = s.sweepQueue ∧ (ws.foldl State.judgeWindow s).engine = s.engine ∧
    (ws.foldl State.judgeWindow s).intervals = s.intervals ∧
    (ws.foldl State.judgeWindow s).intervalDue = s.intervalDue ∧
    (ws.foldl State.judgeWindow s).bindings = s.bindings ∧ (ws.foldl State.judgeWindow s).chord = s.chord ∧
    (ws.foldl State.judgeWindow s).levels = s.levels ∧ (ws.foldl State.judgeWindow s).inputs = s.inputs ∧
    (ws.foldl State.judgeWindow s).chordTimer = s.chordTimer ∧
    (ws.foldl State.judgeWindow s).chordFired = s.chordFired ∧
    (ws.foldl State.judgeWindow s).servicePos = s.servicePos ∧
    (ws.foldl State.judgeWindow s).eventClaim = s.eventClaim ∧
    (ws.foldl State.judgeWindow s).newCounts = s.newCounts ∧ (ws.foldl State.judgeWindow s).logStyle = s.logStyle ∧
    (ws.foldl State.judgeWindow s).logBase = s.logBase := by
  induction ws generalizing s with
  | nil => simp
  | cons x xs ih => simp [ih]

@[simp] theorem judgeWindows_keeps :
    (s.judgeWindows).pending = s.pending ∧ (s.judgeWindows).bootStage = s.bootStage ∧
    (s.judgeWindows).resetKind = s.resetKind ∧ (s.judgeWindows).setupSel = s.setupSel ∧
    (s.judgeWindows).evLevels = s.evLevels ∧ (s.judgeWindows).ursp = s.ursp ∧ (s.judgeWindows).alert = s.alert ∧
    (s.judgeWindows).tick = s.tick ∧ (s.judgeWindows).cycles = s.cycles ∧ (s.judgeWindows).partState = s.partState ∧
    (s.judgeWindows).wasActive = s.wasActive ∧ (s.judgeWindows).boot = s.boot ∧ (s.judgeWindows).live = s.live ∧
    (s.judgeWindows).setup = s.setup ∧ (s.judgeWindows).releaseClaim = s.releaseClaim ∧
    (s.judgeWindows).statusEntry = s.statusEntry ∧ (s.judgeWindows).statusWritten = s.statusWritten ∧
    (s.judgeWindows).command = s.command ∧ (s.judgeWindows).commandEntry = s.commandEntry ∧
    (s.judgeWindows).commandWritten = s.commandWritten ∧ (s.judgeWindows).outstanding = s.outstanding ∧
    (s.judgeWindows).head = s.head ∧ (s.judgeWindows).responses = s.responses ∧ (s.judgeWindows).tags = s.tags ∧
    (s.judgeWindows).passQueue = s.passQueue ∧ (s.judgeWindows).dreq = s.dreq ∧
    (s.judgeWindows).entries = s.entries ∧ (s.judgeWindows).suspects = s.suspects ∧
    (s.judgeWindows).sweepQueue = s.sweepQueue ∧ (s.judgeWindows).engine = s.engine ∧
    (s.judgeWindows).intervals = s.intervals ∧ (s.judgeWindows).intervalDue = s.intervalDue ∧
    (s.judgeWindows).bindings = s.bindings ∧ (s.judgeWindows).chord = s.chord ∧ (s.judgeWindows).levels = s.levels ∧
    (s.judgeWindows).inputs = s.inputs ∧ (s.judgeWindows).chordTimer = s.chordTimer ∧
    (s.judgeWindows).chordFired = s.chordFired ∧ (s.judgeWindows).servicePos = s.servicePos ∧
    (s.judgeWindows).eventClaim = s.eventClaim ∧ (s.judgeWindows).newCounts = s.newCounts ∧
    (s.judgeWindows).logStyle = s.logStyle ∧ (s.judgeWindows).logBase = s.logBase := by
  simp [State.judgeWindows]

@[simp] theorem disableBinding_keeps (n : InputNo) (c : BitVec 32) :
    (s.disableBinding n c).pending = s.pending ∧ (s.disableBinding n c).bootStage = s.bootStage ∧
    (s.disableBinding n c).resetKind = s.resetKind ∧ (s.disableBinding n c).setupSel = s.setupSel ∧
    (s.disableBinding n c).evLevels = s.evLevels ∧ (s.disableBinding n c).ursp = s.ursp ∧
    (s.disableBinding n c).alert = s.alert ∧ (s.disableBinding n c).tick = s.tick ∧
    (s.disableBinding n c).cycles = s.cycles ∧ (s.disableBinding n c).partState = s.partState ∧
    (s.disableBinding n c).wasActive = s.wasActive ∧ (s.disableBinding n c).boot = s.boot ∧
    (s.disableBinding n c).live = s.live ∧ (s.disableBinding n c).setup = s.setup ∧
    (s.disableBinding n c).releaseClaim = s.releaseClaim ∧ (s.disableBinding n c).statusEntry = s.statusEntry ∧
    (s.disableBinding n c).statusWritten = s.statusWritten ∧ (s.disableBinding n c).command = s.command ∧
    (s.disableBinding n c).commandEntry = s.commandEntry ∧
    (s.disableBinding n c).commandWritten = s.commandWritten ∧ (s.disableBinding n c).outstanding = s.outstanding ∧
    (s.disableBinding n c).head = s.head ∧ (s.disableBinding n c).responses = s.responses ∧
    (s.disableBinding n c).tags = s.tags ∧ (s.disableBinding n c).passQueue = s.passQueue ∧
    (s.disableBinding n c).dreq = s.dreq ∧ (s.disableBinding n c).windows = s.windows ∧
    (s.disableBinding n c).entries = s.entries ∧ (s.disableBinding n c).suspects = s.suspects ∧
    (s.disableBinding n c).sweepQueue = s.sweepQueue ∧ (s.disableBinding n c).engine = s.engine ∧
    (s.disableBinding n c).intervals = s.intervals ∧ (s.disableBinding n c).intervalDue = s.intervalDue ∧
    (s.disableBinding n c).chord = s.chord ∧ (s.disableBinding n c).levels = s.levels ∧
    (s.disableBinding n c).inputs = s.inputs ∧ (s.disableBinding n c).chordTimer = s.chordTimer ∧
    (s.disableBinding n c).chordFired = s.chordFired ∧ (s.disableBinding n c).servicePos = s.servicePos ∧
    (s.disableBinding n c).eventClaim = s.eventClaim ∧ (s.disableBinding n c).newCounts = s.newCounts ∧
    (s.disableBinding n c).logStyle = s.logStyle ∧ (s.disableBinding n c).logBase = s.logBase := by
  simp [State.disableBinding]

@[simp] theorem judgeBinding_keeps (n : InputNo) :
    (s.judgeBinding n).pending = s.pending ∧ (s.judgeBinding n).bootStage = s.bootStage ∧
    (s.judgeBinding n).resetKind = s.resetKind ∧ (s.judgeBinding n).setupSel = s.setupSel ∧
    (s.judgeBinding n).evLevels = s.evLevels ∧ (s.judgeBinding n).ursp = s.ursp ∧
    (s.judgeBinding n).alert = s.alert ∧ (s.judgeBinding n).tick = s.tick ∧ (s.judgeBinding n).cycles = s.cycles ∧
    (s.judgeBinding n).partState = s.partState ∧ (s.judgeBinding n).wasActive = s.wasActive ∧
    (s.judgeBinding n).boot = s.boot ∧ (s.judgeBinding n).live = s.live ∧ (s.judgeBinding n).setup = s.setup ∧
    (s.judgeBinding n).releaseClaim = s.releaseClaim ∧ (s.judgeBinding n).statusEntry = s.statusEntry ∧
    (s.judgeBinding n).statusWritten = s.statusWritten ∧ (s.judgeBinding n).command = s.command ∧
    (s.judgeBinding n).commandEntry = s.commandEntry ∧ (s.judgeBinding n).commandWritten = s.commandWritten ∧
    (s.judgeBinding n).outstanding = s.outstanding ∧ (s.judgeBinding n).head = s.head ∧
    (s.judgeBinding n).responses = s.responses ∧ (s.judgeBinding n).tags = s.tags ∧
    (s.judgeBinding n).passQueue = s.passQueue ∧ (s.judgeBinding n).dreq = s.dreq ∧
    (s.judgeBinding n).windows = s.windows ∧ (s.judgeBinding n).entries = s.entries ∧
    (s.judgeBinding n).suspects = s.suspects ∧ (s.judgeBinding n).sweepQueue = s.sweepQueue ∧
    (s.judgeBinding n).engine = s.engine ∧ (s.judgeBinding n).intervals = s.intervals ∧
    (s.judgeBinding n).intervalDue = s.intervalDue ∧ (s.judgeBinding n).chord = s.chord ∧
    (s.judgeBinding n).levels = s.levels ∧ (s.judgeBinding n).inputs = s.inputs ∧
    (s.judgeBinding n).chordTimer = s.chordTimer ∧ (s.judgeBinding n).chordFired = s.chordFired ∧
    (s.judgeBinding n).servicePos = s.servicePos ∧ (s.judgeBinding n).eventClaim = s.eventClaim ∧
    (s.judgeBinding n).newCounts = s.newCounts ∧ (s.judgeBinding n).logStyle = s.logStyle ∧
    (s.judgeBinding n).logBase = s.logBase := by
  dsimp only [State.judgeBinding]
  (repeat' split) <;> simp

@[simp] theorem foldl_judgeBinding_keeps (ns : List InputNo) :
    (ns.foldl State.judgeBinding s).pending = s.pending ∧ (ns.foldl State.judgeBinding s).bootStage = s.bootStage ∧
    (ns.foldl State.judgeBinding s).resetKind = s.resetKind ∧
    (ns.foldl State.judgeBinding s).setupSel = s.setupSel ∧ (ns.foldl State.judgeBinding s).evLevels = s.evLevels ∧
    (ns.foldl State.judgeBinding s).ursp = s.ursp ∧ (ns.foldl State.judgeBinding s).alert = s.alert ∧
    (ns.foldl State.judgeBinding s).tick = s.tick ∧ (ns.foldl State.judgeBinding s).cycles = s.cycles ∧
    (ns.foldl State.judgeBinding s).partState = s.partState ∧
    (ns.foldl State.judgeBinding s).wasActive = s.wasActive ∧ (ns.foldl State.judgeBinding s).boot = s.boot ∧
    (ns.foldl State.judgeBinding s).live = s.live ∧ (ns.foldl State.judgeBinding s).setup = s.setup ∧
    (ns.foldl State.judgeBinding s).releaseClaim = s.releaseClaim ∧
    (ns.foldl State.judgeBinding s).statusEntry = s.statusEntry ∧
    (ns.foldl State.judgeBinding s).statusWritten = s.statusWritten ∧
    (ns.foldl State.judgeBinding s).command = s.command ∧
    (ns.foldl State.judgeBinding s).commandEntry = s.commandEntry ∧
    (ns.foldl State.judgeBinding s).commandWritten = s.commandWritten ∧
    (ns.foldl State.judgeBinding s).outstanding = s.outstanding ∧ (ns.foldl State.judgeBinding s).head = s.head ∧
    (ns.foldl State.judgeBinding s).responses = s.responses ∧ (ns.foldl State.judgeBinding s).tags = s.tags ∧
    (ns.foldl State.judgeBinding s).passQueue = s.passQueue ∧ (ns.foldl State.judgeBinding s).dreq = s.dreq ∧
    (ns.foldl State.judgeBinding s).windows = s.windows ∧ (ns.foldl State.judgeBinding s).entries = s.entries ∧
    (ns.foldl State.judgeBinding s).suspects = s.suspects ∧
    (ns.foldl State.judgeBinding s).sweepQueue = s.sweepQueue ∧ (ns.foldl State.judgeBinding s).engine = s.engine ∧
    (ns.foldl State.judgeBinding s).intervals = s.intervals ∧
    (ns.foldl State.judgeBinding s).intervalDue = s.intervalDue ∧ (ns.foldl State.judgeBinding s).chord = s.chord ∧
    (ns.foldl State.judgeBinding s).levels = s.levels ∧ (ns.foldl State.judgeBinding s).inputs = s.inputs ∧
    (ns.foldl State.judgeBinding s).chordTimer = s.chordTimer ∧
    (ns.foldl State.judgeBinding s).chordFired = s.chordFired ∧
    (ns.foldl State.judgeBinding s).servicePos = s.servicePos ∧
    (ns.foldl State.judgeBinding s).eventClaim = s.eventClaim ∧
    (ns.foldl State.judgeBinding s).newCounts = s.newCounts ∧
    (ns.foldl State.judgeBinding s).logStyle = s.logStyle ∧ (ns.foldl State.judgeBinding s).logBase = s.logBase := by
  induction ns generalizing s with
  | nil => simp
  | cons x xs ih => simp [ih]

@[simp] theorem judgeBindings_keeps :
    (s.judgeBindings).pending = s.pending ∧ (s.judgeBindings).bootStage = s.bootStage ∧
    (s.judgeBindings).resetKind = s.resetKind ∧ (s.judgeBindings).setupSel = s.setupSel ∧
    (s.judgeBindings).evLevels = s.evLevels ∧ (s.judgeBindings).ursp = s.ursp ∧ (s.judgeBindings).alert = s.alert ∧
    (s.judgeBindings).tick = s.tick ∧ (s.judgeBindings).cycles = s.cycles ∧
    (s.judgeBindings).partState = s.partState ∧ (s.judgeBindings).wasActive = s.wasActive ∧
    (s.judgeBindings).boot = s.boot ∧ (s.judgeBindings).live = s.live ∧ (s.judgeBindings).setup = s.setup ∧
    (s.judgeBindings).releaseClaim = s.releaseClaim ∧ (s.judgeBindings).statusEntry = s.statusEntry ∧
    (s.judgeBindings).statusWritten = s.statusWritten ∧ (s.judgeBindings).command = s.command ∧
    (s.judgeBindings).commandEntry = s.commandEntry ∧ (s.judgeBindings).commandWritten = s.commandWritten ∧
    (s.judgeBindings).outstanding = s.outstanding ∧ (s.judgeBindings).head = s.head ∧
    (s.judgeBindings).responses = s.responses ∧ (s.judgeBindings).tags = s.tags ∧
    (s.judgeBindings).passQueue = s.passQueue ∧ (s.judgeBindings).dreq = s.dreq ∧
    (s.judgeBindings).windows = s.windows ∧ (s.judgeBindings).entries = s.entries ∧
    (s.judgeBindings).suspects = s.suspects ∧ (s.judgeBindings).sweepQueue = s.sweepQueue ∧
    (s.judgeBindings).engine = s.engine ∧ (s.judgeBindings).intervals = s.intervals ∧
    (s.judgeBindings).intervalDue = s.intervalDue ∧ (s.judgeBindings).chord = s.chord ∧
    (s.judgeBindings).levels = s.levels ∧ (s.judgeBindings).inputs = s.inputs ∧
    (s.judgeBindings).chordTimer = s.chordTimer ∧ (s.judgeBindings).chordFired = s.chordFired ∧
    (s.judgeBindings).servicePos = s.servicePos ∧ (s.judgeBindings).eventClaim = s.eventClaim ∧
    (s.judgeBindings).newCounts = s.newCounts ∧ (s.judgeBindings).logStyle = s.logStyle ∧
    (s.judgeBindings).logBase = s.logBase := by
  simp [State.judgeBindings]

@[simp] theorem judgeChord_keeps :
    (s.judgeChord).pending = s.pending ∧ (s.judgeChord).bootStage = s.bootStage ∧
    (s.judgeChord).resetKind = s.resetKind ∧ (s.judgeChord).setupSel = s.setupSel ∧
    (s.judgeChord).evLevels = s.evLevels ∧ (s.judgeChord).ursp = s.ursp ∧ (s.judgeChord).alert = s.alert ∧
    (s.judgeChord).tick = s.tick ∧ (s.judgeChord).cycles = s.cycles ∧ (s.judgeChord).partState = s.partState ∧
    (s.judgeChord).wasActive = s.wasActive ∧ (s.judgeChord).boot = s.boot ∧ (s.judgeChord).live = s.live ∧
    (s.judgeChord).setup = s.setup ∧ (s.judgeChord).releaseClaim = s.releaseClaim ∧
    (s.judgeChord).statusEntry = s.statusEntry ∧ (s.judgeChord).statusWritten = s.statusWritten ∧
    (s.judgeChord).command = s.command ∧ (s.judgeChord).commandEntry = s.commandEntry ∧
    (s.judgeChord).commandWritten = s.commandWritten ∧ (s.judgeChord).outstanding = s.outstanding ∧
    (s.judgeChord).head = s.head ∧ (s.judgeChord).responses = s.responses ∧ (s.judgeChord).tags = s.tags ∧
    (s.judgeChord).passQueue = s.passQueue ∧ (s.judgeChord).dreq = s.dreq ∧ (s.judgeChord).windows = s.windows ∧
    (s.judgeChord).entries = s.entries ∧ (s.judgeChord).suspects = s.suspects ∧
    (s.judgeChord).sweepQueue = s.sweepQueue ∧ (s.judgeChord).engine = s.engine ∧
    (s.judgeChord).intervals = s.intervals ∧ (s.judgeChord).intervalDue = s.intervalDue ∧
    (s.judgeChord).bindings = s.bindings ∧ (s.judgeChord).levels = s.levels ∧ (s.judgeChord).inputs = s.inputs ∧
    (s.judgeChord).chordTimer = s.chordTimer ∧ (s.judgeChord).chordFired = s.chordFired ∧
    (s.judgeChord).servicePos = s.servicePos ∧ (s.judgeChord).eventClaim = s.eventClaim ∧
    (s.judgeChord).newCounts = s.newCounts ∧ (s.judgeChord).logStyle = s.logStyle ∧
    (s.judgeChord).logBase = s.logBase := by
  dsimp only [State.judgeChord]
  (repeat' split) <;> simp

@[simp] theorem judgeAll_keeps :
    (s.judgeAll).pending = s.pending ∧ (s.judgeAll).bootStage = s.bootStage ∧ (s.judgeAll).resetKind = s.resetKind ∧
    (s.judgeAll).setupSel = s.setupSel ∧ (s.judgeAll).evLevels = s.evLevels ∧ (s.judgeAll).ursp = s.ursp ∧
    (s.judgeAll).alert = s.alert ∧ (s.judgeAll).tick = s.tick ∧ (s.judgeAll).cycles = s.cycles ∧
    (s.judgeAll).partState = s.partState ∧ (s.judgeAll).wasActive = s.wasActive ∧ (s.judgeAll).boot = s.boot ∧
    (s.judgeAll).setup = s.setup ∧ (s.judgeAll).releaseClaim = s.releaseClaim ∧
    (s.judgeAll).statusEntry = s.statusEntry ∧ (s.judgeAll).statusWritten = s.statusWritten ∧
    (s.judgeAll).command = s.command ∧ (s.judgeAll).commandEntry = s.commandEntry ∧
    (s.judgeAll).commandWritten = s.commandWritten ∧ (s.judgeAll).outstanding = s.outstanding ∧
    (s.judgeAll).head = s.head ∧ (s.judgeAll).responses = s.responses ∧ (s.judgeAll).tags = s.tags ∧
    (s.judgeAll).passQueue = s.passQueue ∧ (s.judgeAll).dreq = s.dreq ∧ (s.judgeAll).entries = s.entries ∧
    (s.judgeAll).suspects = s.suspects ∧ (s.judgeAll).sweepQueue = s.sweepQueue ∧ (s.judgeAll).engine = s.engine ∧
    (s.judgeAll).intervals = s.intervals ∧ (s.judgeAll).intervalDue = s.intervalDue ∧
    (s.judgeAll).levels = s.levels ∧ (s.judgeAll).inputs = s.inputs ∧ (s.judgeAll).chordTimer = s.chordTimer ∧
    (s.judgeAll).chordFired = s.chordFired ∧ (s.judgeAll).servicePos = s.servicePos ∧
    (s.judgeAll).eventClaim = s.eventClaim ∧ (s.judgeAll).newCounts = s.newCounts ∧
    (s.judgeAll).logStyle = s.logStyle ∧ (s.judgeAll).logBase = s.logBase := by
  simp [State.judgeAll]

@[simp] theorem writeArmingResult_keeps :
    (s.writeArmingResult).pending = s.pending ∧ (s.writeArmingResult).bootStage = s.bootStage ∧
    (s.writeArmingResult).resetKind = s.resetKind ∧ (s.writeArmingResult).setupSel = s.setupSel ∧
    (s.writeArmingResult).evLevels = s.evLevels ∧ (s.writeArmingResult).ursp = s.ursp ∧
    (s.writeArmingResult).alert = s.alert ∧ (s.writeArmingResult).tick = s.tick ∧
    (s.writeArmingResult).cycles = s.cycles ∧ (s.writeArmingResult).partState = s.partState ∧
    (s.writeArmingResult).wasActive = s.wasActive ∧ (s.writeArmingResult).fellToDefault = s.fellToDefault ∧
    (s.writeArmingResult).boot = s.boot ∧ (s.writeArmingResult).live = s.live ∧
    (s.writeArmingResult).setup = s.setup ∧ (s.writeArmingResult).releaseClaim = s.releaseClaim ∧
    (s.writeArmingResult).statusEntry = s.statusEntry ∧ (s.writeArmingResult).statusWritten = s.statusWritten ∧
    (s.writeArmingResult).commandEntry = s.commandEntry ∧ (s.writeArmingResult).commandWritten = s.commandWritten ∧
    (s.writeArmingResult).outstanding = s.outstanding ∧ (s.writeArmingResult).head = s.head ∧
    (s.writeArmingResult).responses = s.responses ∧ (s.writeArmingResult).tags = s.tags ∧
    (s.writeArmingResult).passQueue = s.passQueue ∧ (s.writeArmingResult).dreq = s.dreq ∧
    (s.writeArmingResult).windows = s.windows ∧ (s.writeArmingResult).entries = s.entries ∧
    (s.writeArmingResult).suspects = s.suspects ∧ (s.writeArmingResult).sweepQueue = s.sweepQueue ∧
    (s.writeArmingResult).engine = s.engine ∧ (s.writeArmingResult).intervals = s.intervals ∧
    (s.writeArmingResult).intervalDue = s.intervalDue ∧ (s.writeArmingResult).bindings = s.bindings ∧
    (s.writeArmingResult).chord = s.chord ∧ (s.writeArmingResult).levels = s.levels ∧
    (s.writeArmingResult).inputs = s.inputs ∧ (s.writeArmingResult).chordTimer = s.chordTimer ∧
    (s.writeArmingResult).chordFired = s.chordFired ∧ (s.writeArmingResult).servicePos = s.servicePos ∧
    (s.writeArmingResult).eventClaim = s.eventClaim ∧ (s.writeArmingResult).newCounts = s.newCounts ∧
    (s.writeArmingResult).logStyle = s.logStyle ∧ (s.writeArmingResult).logBase = s.logBase ∧
    (s.writeArmingResult).logNext = s.logNext ∧ (s.writeArmingResult).logHeld = s.logHeld ∧
    (s.writeArmingResult).logQueue = s.logQueue := by
  dsimp only [State.writeArmingResult]
  (repeat' split) <;> simp

@[simp] theorem completeLoading_keeps :
    (s.completeLoading).pending = s.pending ∧ (s.completeLoading).bootStage = s.bootStage ∧
    (s.completeLoading).resetKind = s.resetKind ∧ (s.completeLoading).setupSel = s.setupSel ∧
    (s.completeLoading).evLevels = s.evLevels ∧ (s.completeLoading).ursp = s.ursp ∧
    (s.completeLoading).alert = s.alert ∧ (s.completeLoading).tick = s.tick ∧
    (s.completeLoading).cycles = s.cycles ∧ (s.completeLoading).boot = s.boot ∧
    (s.completeLoading).setup = s.setup ∧ (s.completeLoading).releaseClaim = s.releaseClaim ∧
    (s.completeLoading).statusEntry = s.statusEntry ∧ (s.completeLoading).statusWritten = s.statusWritten ∧
    (s.completeLoading).commandEntry = s.commandEntry ∧ (s.completeLoading).commandWritten = s.commandWritten ∧
    (s.completeLoading).outstanding = s.outstanding ∧ (s.completeLoading).head = s.head ∧
    (s.completeLoading).responses = s.responses ∧ (s.completeLoading).tags = s.tags ∧
    (s.completeLoading).passQueue = s.passQueue ∧ (s.completeLoading).dreq = s.dreq ∧
    (s.completeLoading).entries = s.entries ∧ (s.completeLoading).engine = s.engine ∧
    (s.completeLoading).logStyle = s.logStyle ∧ (s.completeLoading).logBase = s.logBase := by
  simp [State.completeLoading]

end Sys2Proof.Machine
end

