-- ==== Sys2Proof/Laws/Upstream.lean ====
section
/-!
SUPPORT. What the commands and the examination of a head leave as it is.
-/

namespace Sys2Proof.Machine

variable (s : State)

@[simp] theorem runArm_keeps :
    (s.runArm).pending = s.pending ∧ (s.runArm).bootStage = s.bootStage ∧ (s.runArm).resetKind = s.resetKind ∧
    (s.runArm).setupSel = s.setupSel ∧ (s.runArm).evLevels = s.evLevels ∧ (s.runArm).ursp = s.ursp ∧
    (s.runArm).alert = s.alert ∧ (s.runArm).tick = s.tick ∧ (s.runArm).cycles = s.cycles ∧
    (s.runArm).wasActive = s.wasActive ∧ (s.runArm).boot = s.boot ∧ (s.runArm).live = s.live ∧
    (s.runArm).releaseClaim = s.releaseClaim ∧ (s.runArm).statusEntry = s.statusEntry ∧
    (s.runArm).statusWritten = s.statusWritten ∧ (s.runArm).commandEntry = s.commandEntry ∧
    (s.runArm).commandWritten = s.commandWritten ∧ (s.runArm).outstanding = s.outstanding ∧
    (s.runArm).head = s.head ∧ (s.runArm).responses = s.responses ∧ (s.runArm).tags = s.tags ∧
    (s.runArm).passQueue = s.passQueue ∧ (s.runArm).dreq = s.dreq ∧ (s.runArm).windows = s.windows ∧
    (s.runArm).entries = s.entries ∧ (s.runArm).suspects = s.suspects ∧ (s.runArm).sweepQueue = s.sweepQueue ∧
    (s.runArm).engine = s.engine ∧ (s.runArm).intervals = s.intervals ∧ (s.runArm).intervalDue = s.intervalDue ∧
    (s.runArm).bindings = s.bindings ∧ (s.runArm).chord = s.chord ∧ (s.runArm).levels = s.levels ∧
    (s.runArm).inputs = s.inputs ∧ (s.runArm).chordTimer = s.chordTimer ∧ (s.runArm).chordFired = s.chordFired ∧
    (s.runArm).servicePos = s.servicePos ∧ (s.runArm).eventClaim = s.eventClaim ∧
    (s.runArm).newCounts = s.newCounts ∧ (s.runArm).logStyle = s.logStyle ∧ (s.runArm).logBase = s.logBase := by
  dsimp only [State.runArm]
  (repeat' split) <;> simp

@[simp] theorem runDisarm_keeps :
    (s.runDisarm).pending = s.pending ∧ (s.runDisarm).bootStage = s.bootStage ∧
    (s.runDisarm).resetKind = s.resetKind ∧ (s.runDisarm).setupSel = s.setupSel ∧
    (s.runDisarm).evLevels = s.evLevels ∧ (s.runDisarm).ursp = s.ursp ∧ (s.runDisarm).alert = s.alert ∧
    (s.runDisarm).tick = s.tick ∧ (s.runDisarm).cycles = s.cycles ∧ (s.runDisarm).wasActive = s.wasActive ∧
    (s.runDisarm).fellToDefault = s.fellToDefault ∧ (s.runDisarm).boot = s.boot ∧ (s.runDisarm).live = s.live ∧
    (s.runDisarm).setup = s.setup ∧ (s.runDisarm).releaseClaim = s.releaseClaim ∧
    (s.runDisarm).statusEntry = s.statusEntry ∧ (s.runDisarm).statusWritten = s.statusWritten ∧
    (s.runDisarm).commandEntry = s.commandEntry ∧ (s.runDisarm).commandWritten = s.commandWritten ∧
    (s.runDisarm).outstanding = s.outstanding ∧ (s.runDisarm).head = s.head ∧
    (s.runDisarm).responses = s.responses ∧ (s.runDisarm).tags = s.tags ∧ (s.runDisarm).passQueue = s.passQueue ∧
    (s.runDisarm).dreq = s.dreq ∧ (s.runDisarm).windows = s.windows ∧ (s.runDisarm).entries = s.entries ∧
    (s.runDisarm).suspects = s.suspects ∧ (s.runDisarm).intervals = s.intervals ∧
    (s.runDisarm).bindings = s.bindings ∧ (s.runDisarm).chord = s.chord ∧ (s.runDisarm).logStyle = s.logStyle ∧
    (s.runDisarm).logBase = s.logBase := by
  dsimp only [State.runDisarm]
  (repeat' split) <;> simp

@[simp] theorem runRearm_keeps (b : Byte) :
    (s.runRearm b).pending = s.pending ∧ (s.runRearm b).bootStage = s.bootStage ∧
    (s.runRearm b).resetKind = s.resetKind ∧ (s.runRearm b).setupSel = s.setupSel ∧
    (s.runRearm b).evLevels = s.evLevels ∧ (s.runRearm b).ursp = s.ursp ∧ (s.runRearm b).alert = s.alert ∧
    (s.runRearm b).tick = s.tick ∧ (s.runRearm b).cycles = s.cycles ∧ (s.runRearm b).partState = s.partState ∧
    (s.runRearm b).wasActive = s.wasActive ∧ (s.runRearm b).fellToDefault = s.fellToDefault ∧
    (s.runRearm b).boot = s.boot ∧ (s.runRearm b).live = s.live ∧ (s.runRearm b).setup = s.setup ∧
    (s.runRearm b).releaseClaim = s.releaseClaim ∧ (s.runRearm b).statusEntry = s.statusEntry ∧
    (s.runRearm b).statusWritten = s.statusWritten ∧ (s.runRearm b).commandEntry = s.commandEntry ∧
    (s.runRearm b).commandWritten = s.commandWritten ∧ (s.runRearm b).outstanding = s.outstanding ∧
    (s.runRearm b).head = s.head ∧ (s.runRearm b).responses = s.responses ∧ (s.runRearm b).tags = s.tags ∧
    (s.runRearm b).passQueue = s.passQueue ∧ (s.runRearm b).dreq = s.dreq ∧ (s.runRearm b).entries = s.entries ∧
    (s.runRearm b).suspects = s.suspects ∧ (s.runRearm b).sweepQueue = s.sweepQueue ∧
    (s.runRearm b).engine = s.engine ∧ (s.runRearm b).intervals = s.intervals ∧
    (s.runRearm b).intervalDue = s.intervalDue ∧ (s.runRearm b).bindings = s.bindings ∧
    (s.runRearm b).chord = s.chord ∧ (s.runRearm b).levels = s.levels ∧ (s.runRearm b).inputs = s.inputs ∧
    (s.runRearm b).chordTimer = s.chordTimer ∧ (s.runRearm b).chordFired = s.chordFired ∧
    (s.runRearm b).servicePos = s.servicePos ∧ (s.runRearm b).eventClaim = s.eventClaim ∧
    (s.runRearm b).newCounts = s.newCounts ∧ (s.runRearm b).logStyle = s.logStyle ∧
    (s.runRearm b).logBase = s.logBase ∧ (s.runRearm b).logNext = s.logNext ∧ (s.runRearm b).logHeld = s.logHeld ∧
    (s.runRearm b).logQueue = s.logQueue := by
  dsimp only [State.runRearm]
  (repeat' split) <;> simp

@[simp] theorem handCounted_keeps (qs : List SweepRequest) :
    ((s.handCounted qs).1).pending = s.pending ∧ ((s.handCounted qs).1).bootStage = s.bootStage ∧
    ((s.handCounted qs).1).resetKind = s.resetKind ∧ ((s.handCounted qs).1).setupSel = s.setupSel ∧
    ((s.handCounted qs).1).evLevels = s.evLevels ∧ ((s.handCounted qs).1).ursp = s.ursp ∧
    ((s.handCounted qs).1).alert = s.alert ∧ ((s.handCounted qs).1).tick = s.tick ∧
    ((s.handCounted qs).1).cycles = s.cycles ∧ ((s.handCounted qs).1).partState = s.partState ∧
    ((s.handCounted qs).1).wasActive = s.wasActive ∧ ((s.handCounted qs).1).fellToDefault = s.fellToDefault ∧
    ((s.handCounted qs).1).boot = s.boot ∧ ((s.handCounted qs).1).live = s.live ∧
    ((s.handCounted qs).1).setup = s.setup ∧ ((s.handCounted qs).1).releaseClaim = s.releaseClaim ∧
    ((s.handCounted qs).1).statusEntry = s.statusEntry ∧ ((s.handCounted qs).1).statusWritten = s.statusWritten ∧
    ((s.handCounted qs).1).command = s.command ∧ ((s.handCounted qs).1).commandEntry = s.commandEntry ∧
    ((s.handCounted qs).1).commandWritten = s.commandWritten ∧ ((s.handCounted qs).1).outstanding = s.outstanding ∧
    ((s.handCounted qs).1).head = s.head ∧ ((s.handCounted qs).1).responses = s.responses ∧
    ((s.handCounted qs).1).tags = s.tags ∧ ((s.handCounted qs).1).passQueue = s.passQueue ∧
    ((s.handCounted qs).1).dreq = s.dreq ∧ ((s.handCounted qs).1).windows = s.windows ∧
    ((s.handCounted qs).1).entries = s.entries ∧ ((s.handCounted qs).1).suspects = s.suspects ∧
    ((s.handCounted qs).1).engine = s.engine ∧ ((s.handCounted qs).1).intervals = s.intervals ∧
    ((s.handCounted qs).1).intervalDue = s.intervalDue ∧ ((s.handCounted qs).1).bindings = s.bindings ∧
    ((s.handCounted qs).1).chord = s.chord ∧ ((s.handCounted qs).1).levels = s.levels ∧
    ((s.handCounted qs).1).inputs = s.inputs ∧ ((s.handCounted qs).1).chordTimer = s.chordTimer ∧
    ((s.handCounted qs).1).chordFired = s.chordFired ∧ ((s.handCounted qs).1).servicePos = s.servicePos ∧
    ((s.handCounted qs).1).eventClaim = s.eventClaim ∧ ((s.handCounted qs).1).newCounts = s.newCounts ∧
    ((s.handCounted qs).1).logStyle = s.logStyle ∧ ((s.handCounted qs).1).logBase = s.logBase := by
  have key : ∀ b : Bool, (qs.foldl (fun acc q => (acc.1.handSweep q, acc.2 || acc.1.dropsSweep q)) (s, b)).1 = s.handSweeps qs := by
    unfold State.handSweeps
    induction qs generalizing s with
    | nil => simp
    | cons x xs ih => simp [ih]
  simp [State.handCounted, key]

@[simp] theorem handCommanded_keeps (a : SweepAction) (ws : List WindowNo) :
    (s.handCommanded a ws).pending = s.pending ∧ (s.handCommanded a ws).bootStage = s.bootStage ∧
    (s.handCommanded a ws).resetKind = s.resetKind ∧ (s.handCommanded a ws).setupSel = s.setupSel ∧
    (s.handCommanded a ws).evLevels = s.evLevels ∧ (s.handCommanded a ws).ursp = s.ursp ∧
    (s.handCommanded a ws).alert = s.alert ∧ (s.handCommanded a ws).tick = s.tick ∧
    (s.handCommanded a ws).cycles = s.cycles ∧ (s.handCommanded a ws).partState = s.partState ∧
    (s.handCommanded a ws).wasActive = s.wasActive ∧ (s.handCommanded a ws).fellToDefault = s.fellToDefault ∧
    (s.handCommanded a ws).boot = s.boot ∧ (s.handCommanded a ws).live = s.live ∧
    (s.handCommanded a ws).setup = s.setup ∧ (s.handCommanded a ws).releaseClaim = s.releaseClaim ∧
    (s.handCommanded a ws).statusEntry = s.statusEntry ∧ (s.handCommanded a ws).statusWritten = s.statusWritten ∧
    (s.handCommanded a ws).commandEntry = s.commandEntry ∧
    (s.handCommanded a ws).commandWritten = s.commandWritten ∧ (s.handCommanded a ws).outstanding = s.outstanding ∧
    (s.handCommanded a ws).head = s.head ∧ (s.handCommanded a ws).responses = s.responses ∧
    (s.handCommanded a ws).tags = s.tags ∧ (s.handCommanded a ws).passQueue = s.passQueue ∧
    (s.handCommanded a ws).dreq = s.dreq ∧ (s.handCommanded a ws).windows = s.windows ∧
    (s.handCommanded a ws).entries = s.entries ∧ (s.handCommanded a ws).suspects = s.suspects ∧
    (s.handCommanded a ws).engine = s.engine ∧ (s.handCommanded a ws).intervals = s.intervals ∧
    (s.handCommanded a ws).intervalDue = s.intervalDue ∧ (s.handCommanded a ws).bindings = s.bindings ∧
    (s.handCommanded a ws).chord = s.chord ∧ (s.handCommanded a ws).levels = s.levels ∧
    (s.handCommanded a ws).inputs = s.inputs ∧ (s.handCommanded a ws).chordTimer = s.chordTimer ∧
    (s.handCommanded a ws).chordFired = s.chordFired ∧ (s.handCommanded a ws).servicePos = s.servicePos ∧
    (s.handCommanded a ws).eventClaim = s.eventClaim ∧ (s.handCommanded a ws).newCounts = s.newCounts ∧
    (s.handCommanded a ws).logStyle = s.logStyle ∧ (s.handCommanded a ws).logBase = s.logBase := by
  simp [State.handCommanded]

@[simp] theorem runSweep_keeps (w a : Byte) :
    (s.runSweep w a).pending = s.pending ∧ (s.runSweep w a).bootStage = s.bootStage ∧
    (s.runSweep w a).resetKind = s.resetKind ∧ (s.runSweep w a).setupSel = s.setupSel ∧
    (s.runSweep w a).evLevels = s.evLevels ∧ (s.runSweep w a).ursp = s.ursp ∧ (s.runSweep w a).alert = s.alert ∧
    (s.runSweep w a).tick = s.tick ∧ (s.runSweep w a).cycles = s.cycles ∧ (s.runSweep w a).partState = s.partState ∧
    (s.runSweep w a).wasActive = s.wasActive ∧ (s.runSweep w a).fellToDefault = s.fellToDefault ∧
    (s.runSweep w a).boot = s.boot ∧ (s.runSweep w a).live = s.live ∧ (s.runSweep w a).setup = s.setup ∧
    (s.runSweep w a).releaseClaim = s.releaseClaim ∧ (s.runSweep w a).statusEntry = s.statusEntry ∧
    (s.runSweep w a).statusWritten = s.statusWritten ∧ (s.runSweep w a).commandEntry = s.commandEntry ∧
    (s.runSweep w a).commandWritten = s.commandWritten ∧ (s.runSweep w a).outstanding = s.outstanding ∧
    (s.runSweep w a).head = s.head ∧ (s.runSweep w a).responses = s.responses ∧ (s.runSweep w a).tags = s.tags ∧
    (s.runSweep w a).passQueue = s.passQueue ∧ (s.runSweep w a).dreq = s.dreq ∧
    (s.runSweep w a).windows = s.windows ∧ (s.runSweep w a).entries = s.entries ∧
    (s.runSweep w a).suspects = s.suspects ∧ (s.runSweep w a).engine = s.engine ∧
    (s.runSweep w a).intervals = s.intervals ∧ (s.runSweep w a).intervalDue = s.intervalDue ∧
    (s.runSweep w a).bindings = s.bindings ∧ (s.runSweep w a).chord = s.chord ∧ (s.runSweep w a).levels = s.levels ∧
    (s.runSweep w a).inputs = s.inputs ∧ (s.runSweep w a).chordTimer = s.chordTimer ∧
    (s.runSweep w a).chordFired = s.chordFired ∧ (s.runSweep w a).servicePos = s.servicePos ∧
    (s.runSweep w a).eventClaim = s.eventClaim ∧ (s.runSweep w a).newCounts = s.newCounts ∧
    (s.runSweep w a).logStyle = s.logStyle ∧ (s.runSweep w a).logBase = s.logBase := by
  dsimp only [State.runSweep]
  (repeat' split) <;> simp

@[simp] theorem runRelease_keeps (a : ByteAddr) :
    (s.runRelease a).pending = s.pending ∧ (s.runRelease a).bootStage = s.bootStage ∧
    (s.runRelease a).resetKind = s.resetKind ∧ (s.runRelease a).setupSel = s.setupSel ∧
    (s.runRelease a).evLevels = s.evLevels ∧ (s.runRelease a).ursp = s.ursp ∧ (s.runRelease a).alert = s.alert ∧
    (s.runRelease a).tick = s.tick ∧ (s.runRelease a).cycles = s.cycles ∧ (s.runRelease a).partState = s.partState ∧
    (s.runRelease a).wasActive = s.wasActive ∧ (s.runRelease a).fellToDefault = s.fellToDefault ∧
    (s.runRelease a).boot = s.boot ∧ (s.runRelease a).live = s.live ∧ (s.runRelease a).setup = s.setup ∧
    (s.runRelease a).statusEntry = s.statusEntry ∧ (s.runRelease a).statusWritten = s.statusWritten ∧
    (s.runRelease a).commandEntry = s.commandEntry ∧ (s.runRelease a).commandWritten = s.commandWritten ∧
    (s.runRelease a).outstanding = s.outstanding ∧ (s.runRelease a).head = s.head ∧
    (s.runRelease a).responses = s.responses ∧ (s.runRelease a).tags = s.tags ∧
    (s.runRelease a).passQueue = s.passQueue ∧ (s.runRelease a).dreq = s.dreq ∧
    (s.runRelease a).windows = s.windows ∧ (s.runRelease a).entries = s.entries ∧
    (s.runRelease a).suspects = s.suspects ∧ (s.runRelease a).sweepQueue = s.sweepQueue ∧
    (s.runRelease a).engine = s.engine ∧ (s.runRelease a).intervals = s.intervals ∧
    (s.runRelease a).intervalDue = s.intervalDue ∧ (s.runRelease a).bindings = s.bindings ∧
    (s.runRelease a).chord = s.chord ∧ (s.runRelease a).levels = s.levels ∧ (s.runRelease a).inputs = s.inputs ∧
    (s.runRelease a).chordTimer = s.chordTimer ∧ (s.runRelease a).chordFired = s.chordFired ∧
    (s.runRelease a).servicePos = s.servicePos ∧ (s.runRelease a).eventClaim = s.eventClaim ∧
    (s.runRelease a).newCounts = s.newCounts ∧ (s.runRelease a).logStyle = s.logStyle ∧
    (s.runRelease a).logBase = s.logBase ∧ (s.runRelease a).logNext = s.logNext ∧
    (s.runRelease a).logHeld = s.logHeld ∧ (s.runRelease a).logQueue = s.logQueue := by
  dsimp only [State.runRelease]
  (repeat' split) <;> simp

@[simp] theorem runLogReset_keeps :
    (s.runLogReset).pending = s.pending ∧ (s.runLogReset).bootStage = s.bootStage ∧
    (s.runLogReset).resetKind = s.resetKind ∧ (s.runLogReset).setupSel = s.setupSel ∧
    (s.runLogReset).evLevels = s.evLevels ∧ (s.runLogReset).ursp = s.ursp ∧ (s.runLogReset).alert = s.alert ∧
    (s.runLogReset).tick = s.tick ∧ (s.runLogReset).cycles = s.cycles ∧ (s.runLogReset).partState = s.partState ∧
    (s.runLogReset).wasActive = s.wasActive ∧ (s.runLogReset).fellToDefault = s.fellToDefault ∧
    (s.runLogReset).boot = s.boot ∧ (s.runLogReset).live = s.live ∧ (s.runLogReset).setup = s.setup ∧
    (s.runLogReset).releaseClaim = s.releaseClaim ∧ (s.runLogReset).statusEntry = s.statusEntry ∧
    (s.runLogReset).statusWritten = s.statusWritten ∧ (s.runLogReset).commandEntry = s.commandEntry ∧
    (s.runLogReset).commandWritten = s.commandWritten ∧ (s.runLogReset).outstanding = s.outstanding ∧
    (s.runLogReset).head = s.head ∧ (s.runLogReset).responses = s.responses ∧ (s.runLogReset).tags = s.tags ∧
    (s.runLogReset).passQueue = s.passQueue ∧ (s.runLogReset).dreq = s.dreq ∧ (s.runLogReset).windows = s.windows ∧
    (s.runLogReset).entries = s.entries ∧ (s.runLogReset).suspects = s.suspects ∧
    (s.runLogReset).sweepQueue = s.sweepQueue ∧ (s.runLogReset).engine = s.engine ∧
    (s.runLogReset).intervals = s.intervals ∧ (s.runLogReset).intervalDue = s.intervalDue ∧
    (s.runLogReset).bindings = s.bindings ∧ (s.runLogReset).chord = s.chord ∧ (s.runLogReset).levels = s.levels ∧
    (s.runLogReset).inputs = s.inputs ∧ (s.runLogReset).chordTimer = s.chordTimer ∧
    (s.runLogReset).chordFired = s.chordFired ∧ (s.runLogReset).servicePos = s.servicePos ∧
    (s.runLogReset).eventClaim = s.eventClaim ∧ (s.runLogReset).newCounts = s.newCounts ∧
    (s.runLogReset).logStyle = s.logStyle ∧ (s.runLogReset).logBase = s.logBase ∧
    (s.runLogReset).logNext = s.logNext ∧ (s.runLogReset).logQueue = s.logQueue := by
  simp [State.runLogReset]

@[simp] theorem runCommand_keeps (c : CommandLine) :
    (s.runCommand c).pending = s.pending ∧ (s.runCommand c).bootStage = s.bootStage ∧
    (s.runCommand c).resetKind = s.resetKind ∧ (s.runCommand c).setupSel = s.setupSel ∧
    (s.runCommand c).evLevels = s.evLevels ∧ (s.runCommand c).ursp = s.ursp ∧ (s.runCommand c).alert = s.alert ∧
    (s.runCommand c).tick = s.tick ∧ (s.runCommand c).cycles = s.cycles ∧ (s.runCommand c).wasActive = s.wasActive ∧
    (s.runCommand c).boot = s.boot ∧ (s.runCommand c).live = s.live ∧ (s.runCommand c).statusEntry = s.statusEntry ∧
    (s.runCommand c).statusWritten = s.statusWritten ∧ (s.runCommand c).commandEntry = s.commandEntry ∧
    (s.runCommand c).commandWritten = s.commandWritten ∧ (s.runCommand c).outstanding = s.outstanding ∧
    (s.runCommand c).head = s.head ∧ (s.runCommand c).responses = s.responses ∧ (s.runCommand c).tags = s.tags ∧
    (s.runCommand c).passQueue = s.passQueue ∧ (s.runCommand c).dreq = s.dreq ∧
    (s.runCommand c).entries = s.entries ∧ (s.runCommand c).suspects = s.suspects ∧
    (s.runCommand c).intervals = s.intervals ∧ (s.runCommand c).bindings = s.bindings ∧
    (s.runCommand c).chord = s.chord ∧ (s.runCommand c).logStyle = s.logStyle ∧
    (s.runCommand c).logBase = s.logBase := by
  dsimp only [State.runCommand]
  (repeat' split) <;> simp

@[simp] theorem takeIntervals_keeps (k : Nat) (e : Enables) :
    (s.takeIntervals k e).pending = s.pending ∧ (s.takeIntervals k e).bootStage = s.bootStage ∧
    (s.takeIntervals k e).resetKind = s.resetKind ∧ (s.takeIntervals k e).setupSel = s.setupSel ∧
    (s.takeIntervals k e).evLevels = s.evLevels ∧ (s.takeIntervals k e).ursp = s.ursp ∧
    (s.takeIntervals k e).alert = s.alert ∧ (s.takeIntervals k e).tick = s.tick ∧
    (s.takeIntervals k e).cycles = s.cycles ∧ (s.takeIntervals k e).partState = s.partState ∧
    (s.takeIntervals k e).wasActive = s.wasActive ∧ (s.takeIntervals k e).boot = s.boot ∧
    (s.takeIntervals k e).live = s.live ∧ (s.takeIntervals k e).setup = s.setup ∧
    (s.takeIntervals k e).releaseClaim = s.releaseClaim ∧ (s.takeIntervals k e).statusEntry = s.statusEntry ∧
    (s.takeIntervals k e).statusWritten = s.statusWritten ∧ (s.takeIntervals k e).command = s.command ∧
    (s.takeIntervals k e).commandEntry = s.commandEntry ∧ (s.takeIntervals k e).commandWritten = s.commandWritten ∧
    (s.takeIntervals k e).outstanding = s.outstanding ∧ (s.takeIntervals k e).head = s.head ∧
    (s.takeIntervals k e).responses = s.responses ∧ (s.takeIntervals k e).tags = s.tags ∧
    (s.takeIntervals k e).passQueue = s.passQueue ∧ (s.takeIntervals k e).dreq = s.dreq ∧
    (s.takeIntervals k e).windows = s.windows ∧ (s.takeIntervals k e).entries = s.entries ∧
    (s.takeIntervals k e).suspects = s.suspects ∧ (s.takeIntervals k e).sweepQueue = s.sweepQueue ∧
    (s.takeIntervals k e).engine = s.engine ∧ (s.takeIntervals k e).intervalDue = s.intervalDue ∧
    (s.takeIntervals k e).bindings = s.bindings ∧ (s.takeIntervals k e).chord = s.chord ∧
    (s.takeIntervals k e).levels = s.levels ∧ (s.takeIntervals k e).inputs = s.inputs ∧
    (s.takeIntervals k e).chordTimer = s.chordTimer ∧ (s.takeIntervals k e).chordFired = s.chordFired ∧
    (s.takeIntervals k e).servicePos = s.servicePos ∧ (s.takeIntervals k e).eventClaim = s.eventClaim ∧
    (s.takeIntervals k e).newCounts = s.newCounts ∧ (s.takeIntervals k e).logStyle = s.logStyle ∧
    (s.takeIntervals k e).logBase = s.logBase := by
  unfold State.takeIntervals
  induction touchedWindows k e generalizing s with
  | nil => simp
  | cons x xs ih => simp [ih]

@[simp] theorem takeSetting_keeps (k : Nat) (e : Enables) (d : Line) :
    (s.takeSetting k e d).pending = s.pending ∧ (s.takeSetting k e d).bootStage = s.bootStage ∧
    (s.takeSetting k e d).resetKind = s.resetKind ∧ (s.takeSetting k e d).setupSel = s.setupSel ∧
    (s.takeSetting k e d).evLevels = s.evLevels ∧ (s.takeSetting k e d).ursp = s.ursp ∧
    (s.takeSetting k e d).alert = s.alert ∧ (s.takeSetting k e d).tick = s.tick ∧
    (s.takeSetting k e d).cycles = s.cycles ∧ (s.takeSetting k e d).partState = s.partState ∧
    (s.takeSetting k e d).wasActive = s.wasActive ∧ (s.takeSetting k e d).setup = s.setup ∧
    (s.takeSetting k e d).releaseClaim = s.releaseClaim ∧ (s.takeSetting k e d).statusEntry = s.statusEntry ∧
    (s.takeSetting k e d).statusWritten = s.statusWritten ∧ (s.takeSetting k e d).command = s.command ∧
    (s.takeSetting k e d).commandEntry = s.commandEntry ∧ (s.takeSetting k e d).commandWritten = s.commandWritten ∧
    (s.takeSetting k e d).outstanding = s.outstanding ∧ (s.takeSetting k e d).head = s.head ∧
    (s.takeSetting k e d).responses = s.responses ∧ (s.takeSetting k e d).tags = s.tags ∧
    (s.takeSetting k e d).passQueue = s.passQueue ∧ (s.takeSetting k e d).dreq = s.dreq ∧
    (s.takeSetting k e d).windows = s.windows ∧ (s.takeSetting k e d).entries = s.entries ∧
    (s.takeSetting k e d).suspects = s.suspects ∧ (s.takeSetting k e d).sweepQueue = s.sweepQueue ∧
    (s.takeSetting k e d).engine = s.engine ∧ (s.takeSetting k e d).intervalDue = s.intervalDue ∧
    (s.takeSetting k e d).bindings = s.bindings ∧ (s.takeSetting k e d).chord = s.chord ∧
    (s.takeSetting k e d).levels = s.levels ∧ (s.takeSetting k e d).inputs = s.inputs ∧
    (s.takeSetting k e d).chordTimer = s.chordTimer ∧ (s.takeSetting k e d).chordFired = s.chordFired ∧
    (s.takeSetting k e d).servicePos = s.servicePos ∧ (s.takeSetting k e d).eventClaim = s.eventClaim ∧
    (s.takeSetting k e d).newCounts = s.newCounts ∧ (s.takeSetting k e d).logStyle = s.logStyle ∧
    (s.takeSetting k e d).logBase = s.logBase := by
  dsimp only [State.takeSetting]
  (repeat' split) <;> simp

@[simp] theorem refuse_keeps (q : UpRequest) (w : Option WindowNo) (x : Reason) :
    (s.refuse q w x).pending = s.pending ∧ (s.refuse q w x).bootStage = s.bootStage ∧
    (s.refuse q w x).resetKind = s.resetKind ∧ (s.refuse q w x).setupSel = s.setupSel ∧
    (s.refuse q w x).evLevels = s.evLevels ∧ (s.refuse q w x).ursp = s.ursp ∧ (s.refuse q w x).alert = s.alert ∧
    (s.refuse q w x).tick = s.tick ∧ (s.refuse q w x).cycles = s.cycles ∧ (s.refuse q w x).partState = s.partState ∧
    (s.refuse q w x).wasActive = s.wasActive ∧ (s.refuse q w x).fellToDefault = s.fellToDefault ∧
    (s.refuse q w x).boot = s.boot ∧ (s.refuse q w x).live = s.live ∧ (s.refuse q w x).setup = s.setup ∧
    (s.refuse q w x).releaseClaim = s.releaseClaim ∧ (s.refuse q w x).statusEntry = s.statusEntry ∧
    (s.refuse q w x).statusWritten = s.statusWritten ∧ (s.refuse q w x).command = s.command ∧
    (s.refuse q w x).commandEntry = s.commandEntry ∧ (s.refuse q w x).commandWritten = s.commandWritten ∧
    (s.refuse q w x).outstanding = s.outstanding ∧ (s.refuse q w x).tags = s.tags ∧
    (s.refuse q w x).passQueue = s.passQueue ∧ (s.refuse q w x).dreq = s.dreq ∧
    (s.refuse q w x).windows = s.windows ∧ (s.refuse q w x).entries = s.entries ∧
    (s.refuse q w x).suspects = s.suspects ∧ (s.refuse q w x).sweepQueue = s.sweepQueue ∧
    (s.refuse q w x).engine = s.engine ∧ (s.refuse q w x).intervals = s.intervals ∧
    (s.refuse q w x).intervalDue = s.intervalDue ∧ (s.refuse q w x).bindings = s.bindings ∧
    (s.refuse q w x).chord = s.chord ∧ (s.refuse q w x).levels = s.levels ∧ (s.refuse q w x).inputs = s.inputs ∧
    (s.refuse q w x).chordTimer = s.chordTimer ∧ (s.refuse q w x).chordFired = s.chordFired ∧
    (s.refuse q w x).servicePos = s.servicePos ∧ (s.refuse q w x).eventClaim = s.eventClaim ∧
    (s.refuse q w x).newCounts = s.newCounts ∧ (s.refuse q w x).logStyle = s.logStyle ∧
    (s.refuse q w x).logBase = s.logBase := by
  simp [State.refuse]

@[simp] theorem servePass_keeps (q : UpRequest) :
    (s.servePass q).pending = s.pending ∧ (s.servePass q).bootStage = s.bootStage ∧
    (s.servePass q).resetKind = s.resetKind ∧ (s.servePass q).setupSel = s.setupSel ∧
    (s.servePass q).evLevels = s.evLevels ∧ (s.servePass q).ursp = s.ursp ∧ (s.servePass q).alert = s.alert ∧
    (s.servePass q).tick = s.tick ∧ (s.servePass q).cycles = s.cycles ∧ (s.servePass q).partState = s.partState ∧
    (s.servePass q).wasActive = s.wasActive ∧ (s.servePass q).fellToDefault = s.fellToDefault ∧
    (s.servePass q).boot = s.boot ∧ (s.servePass q).live = s.live ∧ (s.servePass q).setup = s.setup ∧
    (s.servePass q).releaseClaim = s.releaseClaim ∧ (s.servePass q).flags = s.flags ∧
    (s.servePass q).statusEntry = s.statusEntry ∧ (s.servePass q).statusWritten = s.statusWritten ∧
    (s.servePass q).command = s.command ∧ (s.servePass q).commandEntry = s.commandEntry ∧
    (s.servePass q).commandWritten = s.commandWritten ∧ (s.servePass q).responses = s.responses ∧
    (s.servePass q).tags = s.tags ∧ (s.servePass q).dreq = s.dreq ∧ (s.servePass q).windows = s.windows ∧
    (s.servePass q).entries = s.entries ∧ (s.servePass q).suspects = s.suspects ∧
    (s.servePass q).sweepQueue = s.sweepQueue ∧ (s.servePass q).engine = s.engine ∧
    (s.servePass q).intervals = s.intervals ∧ (s.servePass q).intervalDue = s.intervalDue ∧
    (s.servePass q).bindings = s.bindings ∧ (s.servePass q).chord = s.chord ∧ (s.servePass q).levels = s.levels ∧
    (s.servePass q).inputs = s.inputs ∧ (s.servePass q).chordTimer = s.chordTimer ∧
    (s.servePass q).chordFired = s.chordFired ∧ (s.servePass q).servicePos = s.servicePos ∧
    (s.servePass q).eventClaim = s.eventClaim ∧ (s.servePass q).newCounts = s.newCounts ∧
    (s.servePass q).logStyle = s.logStyle ∧ (s.servePass q).logBase = s.logBase ∧
    (s.servePass q).logNext = s.logNext ∧ (s.servePass q).logHeld = s.logHeld ∧
    (s.servePass q).logQueue = s.logQueue := by
  dsimp only [State.servePass]
  (repeat' split) <;> simp

@[simp] theorem serveControl_keeps (q : UpRequest) (k : Nat) :
    (s.serveControl q k).pending = s.pending ∧ (s.serveControl q k).bootStage = s.bootStage ∧
    (s.serveControl q k).resetKind = s.resetKind ∧ (s.serveControl q k).setupSel = s.setupSel ∧
    (s.serveControl q k).evLevels = s.evLevels ∧ (s.serveControl q k).ursp = s.ursp ∧
    (s.serveControl q k).alert = s.alert ∧ (s.serveControl q k).tick = s.tick ∧
    (s.serveControl q k).cycles = s.cycles ∧ (s.serveControl q k).partState = s.partState ∧
    (s.serveControl q k).wasActive = s.wasActive ∧ (s.serveControl q k).setup = s.setup ∧
    (s.serveControl q k).releaseClaim = s.releaseClaim ∧ (s.serveControl q k).statusEntry = s.statusEntry ∧
    (s.serveControl q k).statusWritten = s.statusWritten ∧ (s.serveControl q k).command = s.command ∧
    (s.serveControl q k).commandEntry = s.commandEntry ∧ (s.serveControl q k).commandWritten = s.commandWritten ∧
    (s.serveControl q k).tags = s.tags ∧ (s.serveControl q k).dreq = s.dreq ∧
    (s.serveControl q k).windows = s.windows ∧ (s.serveControl q k).entries = s.entries ∧
    (s.serveControl q k).suspects = s.suspects ∧ (s.serveControl q k).sweepQueue = s.sweepQueue ∧
    (s.serveControl q k).engine = s.engine ∧ (s.serveControl q k).intervalDue = s.intervalDue ∧
    (s.serveControl q k).bindings = s.bindings ∧ (s.serveControl q k).chord = s.chord ∧
    (s.serveControl q k).levels = s.levels ∧ (s.serveControl q k).inputs = s.inputs ∧
    (s.serveControl q k).chordTimer = s.chordTimer ∧ (s.serveControl q k).chordFired = s.chordFired ∧
    (s.serveControl q k).servicePos = s.servicePos ∧ (s.serveControl q k).eventClaim = s.eventClaim ∧
    (s.serveControl q k).newCounts = s.newCounts ∧ (s.serveControl q k).logStyle = s.logStyle ∧
    (s.serveControl q k).logBase = s.logBase := by
  dsimp only [State.serveControl]
  (repeat' split) <;> simp

@[simp] theorem servePartOwned_keeps (q : UpRequest) :
    (s.servePartOwned q).pending = s.pending ∧ (s.servePartOwned q).bootStage = s.bootStage ∧
    (s.servePartOwned q).resetKind = s.resetKind ∧ (s.servePartOwned q).setupSel = s.setupSel ∧
    (s.servePartOwned q).evLevels = s.evLevels ∧ (s.servePartOwned q).ursp = s.ursp ∧
    (s.servePartOwned q).alert = s.alert ∧ (s.servePartOwned q).tick = s.tick ∧
    (s.servePartOwned q).cycles = s.cycles ∧ (s.servePartOwned q).partState = s.partState ∧
    (s.servePartOwned q).wasActive = s.wasActive ∧ (s.servePartOwned q).fellToDefault = s.fellToDefault ∧
    (s.servePartOwned q).boot = s.boot ∧ (s.servePartOwned q).live = s.live ∧ (s.servePartOwned q).setup = s.setup ∧
    (s.servePartOwned q).releaseClaim = s.releaseClaim ∧ (s.servePartOwned q).statusEntry = s.statusEntry ∧
    (s.servePartOwned q).statusWritten = s.statusWritten ∧ (s.servePartOwned q).command = s.command ∧
    (s.servePartOwned q).commandEntry = s.commandEntry ∧ (s.servePartOwned q).commandWritten = s.commandWritten ∧
    (s.servePartOwned q).tags = s.tags ∧ (s.servePartOwned q).dreq = s.dreq ∧
    (s.servePartOwned q).windows = s.windows ∧ (s.servePartOwned q).entries = s.entries ∧
    (s.servePartOwned q).suspects = s.suspects ∧ (s.servePartOwned q).sweepQueue = s.sweepQueue ∧
    (s.servePartOwned q).engine = s.engine ∧ (s.servePartOwned q).intervals = s.intervals ∧
    (s.servePartOwned q).intervalDue = s.intervalDue ∧ (s.servePartOwned q).bindings = s.bindings ∧
    (s.servePartOwned q).chord = s.chord ∧ (s.servePartOwned q).levels = s.levels ∧
    (s.servePartOwned q).inputs = s.inputs ∧ (s.servePartOwned q).chordTimer = s.chordTimer ∧
    (s.servePartOwned q).chordFired = s.chordFired ∧ (s.servePartOwned q).servicePos = s.servicePos ∧
    (s.servePartOwned q).eventClaim = s.eventClaim ∧ (s.servePartOwned q).newCounts = s.newCounts ∧
    (s.servePartOwned q).logStyle = s.logStyle ∧ (s.servePartOwned q).logBase = s.logBase := by
  dsimp only [State.servePartOwned]
  (repeat' split) <;> simp

@[simp] theorem serveStatus_keeps (q : UpRequest) :
    (s.serveStatus q).pending = s.pending ∧ (s.serveStatus q).bootStage = s.bootStage ∧
    (s.serveStatus q).resetKind = s.resetKind ∧ (s.serveStatus q).setupSel = s.setupSel ∧
    (s.serveStatus q).evLevels = s.evLevels ∧ (s.serveStatus q).ursp = s.ursp ∧ (s.serveStatus q).alert = s.alert ∧
    (s.serveStatus q).tick = s.tick ∧ (s.serveStatus q).cycles = s.cycles ∧
    (s.serveStatus q).partState = s.partState ∧ (s.serveStatus q).wasActive = s.wasActive ∧
    (s.serveStatus q).fellToDefault = s.fellToDefault ∧ (s.serveStatus q).boot = s.boot ∧
    (s.serveStatus q).live = s.live ∧ (s.serveStatus q).setup = s.setup ∧
    (s.serveStatus q).releaseClaim = s.releaseClaim ∧ (s.serveStatus q).statusEntry = s.statusEntry ∧
    (s.serveStatus q).statusWritten = s.statusWritten ∧ (s.serveStatus q).command = s.command ∧
    (s.serveStatus q).commandEntry = s.commandEntry ∧ (s.serveStatus q).commandWritten = s.commandWritten ∧
    (s.serveStatus q).outstanding = s.outstanding ∧ (s.serveStatus q).tags = s.tags ∧
    (s.serveStatus q).passQueue = s.passQueue ∧ (s.serveStatus q).dreq = s.dreq ∧
    (s.serveStatus q).windows = s.windows ∧ (s.serveStatus q).entries = s.entries ∧
    (s.serveStatus q).suspects = s.suspects ∧ (s.serveStatus q).sweepQueue = s.sweepQueue ∧
    (s.serveStatus q).engine = s.engine ∧ (s.serveStatus q).intervals = s.intervals ∧
    (s.serveStatus q).intervalDue = s.intervalDue ∧ (s.serveStatus q).bindings = s.bindings ∧
    (s.serveStatus q).chord = s.chord ∧ (s.serveStatus q).levels = s.levels ∧ (s.serveStatus q).inputs = s.inputs ∧
    (s.serveStatus q).chordTimer = s.chordTimer ∧ (s.serveStatus q).chordFired = s.chordFired ∧
    (s.serveStatus q).servicePos = s.servicePos ∧ (s.serveStatus q).eventClaim = s.eventClaim ∧
    (s.serveStatus q).newCounts = s.newCounts ∧ (s.serveStatus q).logStyle = s.logStyle ∧
    (s.serveStatus q).logBase = s.logBase := by
  dsimp only [State.serveStatus]
  (repeat' split) <;> simp

@[simp] theorem takeCommand_keeps (q : UpRequest) (d : Line) :
    (s.takeCommand q d).pending = s.pending ∧ (s.takeCommand q d).bootStage = s.bootStage ∧
    (s.takeCommand q d).resetKind = s.resetKind ∧ (s.takeCommand q d).setupSel = s.setupSel ∧
    (s.takeCommand q d).evLevels = s.evLevels ∧ (s.takeCommand q d).ursp = s.ursp ∧
    (s.takeCommand q d).alert = s.alert ∧ (s.takeCommand q d).tick = s.tick ∧
    (s.takeCommand q d).cycles = s.cycles ∧ (s.takeCommand q d).wasActive = s.wasActive ∧
    (s.takeCommand q d).boot = s.boot ∧ (s.takeCommand q d).live = s.live ∧
    (s.takeCommand q d).statusEntry = s.statusEntry ∧ (s.takeCommand q d).statusWritten = s.statusWritten ∧
    (s.takeCommand q d).commandEntry = s.commandEntry ∧ (s.takeCommand q d).commandWritten = s.commandWritten ∧
    (s.takeCommand q d).outstanding = s.outstanding ∧ (s.takeCommand q d).tags = s.tags ∧
    (s.takeCommand q d).passQueue = s.passQueue ∧ (s.takeCommand q d).dreq = s.dreq ∧
    (s.takeCommand q d).entries = s.entries ∧ (s.takeCommand q d).suspects = s.suspects ∧
    (s.takeCommand q d).intervals = s.intervals ∧ (s.takeCommand q d).bindings = s.bindings ∧
    (s.takeCommand q d).chord = s.chord ∧ (s.takeCommand q d).logStyle = s.logStyle ∧
    (s.takeCommand q d).logBase = s.logBase := by
  simp [State.takeCommand]

@[simp] theorem serveCommand_keeps (q : UpRequest) :
    (s.serveCommand q).pending = s.pending ∧ (s.serveCommand q).bootStage = s.bootStage ∧
    (s.serveCommand q).resetKind = s.resetKind ∧ (s.serveCommand q).setupSel = s.setupSel ∧
    (s.serveCommand q).evLevels = s.evLevels ∧ (s.serveCommand q).ursp = s.ursp ∧
    (s.serveCommand q).alert = s.alert ∧ (s.serveCommand q).tick = s.tick ∧ (s.serveCommand q).cycles = s.cycles ∧
    (s.serveCommand q).wasActive = s.wasActive ∧ (s.serveCommand q).boot = s.boot ∧
    (s.serveCommand q).live = s.live ∧ (s.serveCommand q).statusEntry = s.statusEntry ∧
    (s.serveCommand q).statusWritten = s.statusWritten ∧ (s.serveCommand q).commandEntry = s.commandEntry ∧
    (s.serveCommand q).commandWritten = s.commandWritten ∧ (s.serveCommand q).outstanding = s.outstanding ∧
    (s.serveCommand q).tags = s.tags ∧ (s.serveCommand q).passQueue = s.passQueue ∧
    (s.serveCommand q).dreq = s.dreq ∧ (s.serveCommand q).entries = s.entries ∧
    (s.serveCommand q).suspects = s.suspects ∧ (s.serveCommand q).intervals = s.intervals ∧
    (s.serveCommand q).bindings = s.bindings ∧ (s.serveCommand q).chord = s.chord ∧
    (s.serveCommand q).logStyle = s.logStyle ∧ (s.serveCommand q).logBase = s.logBase := by
  dsimp only [State.serveCommand]
  (repeat' split) <;> simp

@[simp] theorem postUpdate_keeps (q : UpRequest) (h : Hold) (d : Line) (e : BitVec 8) :
    (s.postUpdate q h d e).pending = s.pending ∧ (s.postUpdate q h d e).bootStage = s.bootStage ∧
    (s.postUpdate q h d e).resetKind = s.resetKind ∧ (s.postUpdate q h d e).setupSel = s.setupSel ∧
    (s.postUpdate q h d e).evLevels = s.evLevels ∧ (s.postUpdate q h d e).ursp = s.ursp ∧
    (s.postUpdate q h d e).alert = s.alert ∧ (s.postUpdate q h d e).tick = s.tick ∧
    (s.postUpdate q h d e).cycles = s.cycles ∧ (s.postUpdate q h d e).partState = s.partState ∧
    (s.postUpdate q h d e).wasActive = s.wasActive ∧ (s.postUpdate q h d e).fellToDefault = s.fellToDefault ∧
    (s.postUpdate q h d e).boot = s.boot ∧ (s.postUpdate q h d e).live = s.live ∧
    (s.postUpdate q h d e).setup = s.setup ∧ (s.postUpdate q h d e).releaseClaim = s.releaseClaim ∧
    (s.postUpdate q h d e).statusEntry = s.statusEntry ∧ (s.postUpdate q h d e).statusWritten = s.statusWritten ∧
    (s.postUpdate q h d e).command = s.command ∧ (s.postUpdate q h d e).commandEntry = s.commandEntry ∧
    (s.postUpdate q h d e).commandWritten = s.commandWritten ∧ (s.postUpdate q h d e).tags = s.tags ∧
    (s.postUpdate q h d e).passQueue = s.passQueue ∧ (s.postUpdate q h d e).dreq = s.dreq ∧
    (s.postUpdate q h d e).suspects = s.suspects ∧ (s.postUpdate q h d e).sweepQueue = s.sweepQueue ∧
    (s.postUpdate q h d e).intervals = s.intervals ∧ (s.postUpdate q h d e).intervalDue = s.intervalDue ∧
    (s.postUpdate q h d e).bindings = s.bindings ∧ (s.postUpdate q h d e).chord = s.chord ∧
    (s.postUpdate q h d e).levels = s.levels ∧ (s.postUpdate q h d e).inputs = s.inputs ∧
    (s.postUpdate q h d e).chordTimer = s.chordTimer ∧ (s.postUpdate q h d e).chordFired = s.chordFired ∧
    (s.postUpdate q h d e).servicePos = s.servicePos ∧ (s.postUpdate q h d e).eventClaim = s.eventClaim ∧
    (s.postUpdate q h d e).newCounts = s.newCounts ∧ (s.postUpdate q h d e).logStyle = s.logStyle ∧
    (s.postUpdate q h d e).logBase = s.logBase := by
  dsimp only [State.postUpdate]
  (repeat' split) <;> simp

@[simp] theorem postRead_keeps (q : UpRequest) (h : Hold) :
    (s.postRead q h).pending = s.pending ∧ (s.postRead q h).bootStage = s.bootStage ∧
    (s.postRead q h).resetKind = s.resetKind ∧ (s.postRead q h).setupSel = s.setupSel ∧
    (s.postRead q h).evLevels = s.evLevels ∧ (s.postRead q h).ursp = s.ursp ∧ (s.postRead q h).alert = s.alert ∧
    (s.postRead q h).tick = s.tick ∧ (s.postRead q h).cycles = s.cycles ∧ (s.postRead q h).partState = s.partState ∧
    (s.postRead q h).wasActive = s.wasActive ∧ (s.postRead q h).fellToDefault = s.fellToDefault ∧
    (s.postRead q h).boot = s.boot ∧ (s.postRead q h).live = s.live ∧ (s.postRead q h).setup = s.setup ∧
    (s.postRead q h).releaseClaim = s.releaseClaim ∧ (s.postRead q h).statusEntry = s.statusEntry ∧
    (s.postRead q h).statusWritten = s.statusWritten ∧ (s.postRead q h).command = s.command ∧
    (s.postRead q h).commandEntry = s.commandEntry ∧ (s.postRead q h).commandWritten = s.commandWritten ∧
    (s.postRead q h).tags = s.tags ∧ (s.postRead q h).passQueue = s.passQueue ∧ (s.postRead q h).dreq = s.dreq ∧
    (s.postRead q h).suspects = s.suspects ∧ (s.postRead q h).sweepQueue = s.sweepQueue ∧
    (s.postRead q h).intervals = s.intervals ∧ (s.postRead q h).intervalDue = s.intervalDue ∧
    (s.postRead q h).bindings = s.bindings ∧ (s.postRead q h).chord = s.chord ∧ (s.postRead q h).levels = s.levels ∧
    (s.postRead q h).inputs = s.inputs ∧ (s.postRead q h).chordTimer = s.chordTimer ∧
    (s.postRead q h).chordFired = s.chordFired ∧ (s.postRead q h).servicePos = s.servicePos ∧
    (s.postRead q h).eventClaim = s.eventClaim ∧ (s.postRead q h).newCounts = s.newCounts ∧
    (s.postRead q h).logStyle = s.logStyle ∧ (s.postRead q h).logBase = s.logBase := by
  dsimp only [State.postRead]
  (repeat' split) <;> simp

@[simp] theorem serveWindow_keeps (q : UpRequest) (w : WindowNo) (r : WindowRecord) :
    (s.serveWindow q w r).pending = s.pending ∧ (s.serveWindow q w r).bootStage = s.bootStage ∧
    (s.serveWindow q w r).resetKind = s.resetKind ∧ (s.serveWindow q w r).setupSel = s.setupSel ∧
    (s.serveWindow q w r).evLevels = s.evLevels ∧ (s.serveWindow q w r).ursp = s.ursp ∧
    (s.serveWindow q w r).alert = s.alert ∧ (s.serveWindow q w r).tick = s.tick ∧
    (s.serveWindow q w r).cycles = s.cycles ∧ (s.serveWindow q w r).partState = s.partState ∧
    (s.serveWindow q w r).wasActive = s.wasActive ∧ (s.serveWindow q w r).fellToDefault = s.fellToDefault ∧
    (s.serveWindow q w r).boot = s.boot ∧ (s.serveWindow q w r).live = s.live ∧
    (s.serveWindow q w r).setup = s.setup ∧ (s.serveWindow q w r).releaseClaim = s.releaseClaim ∧
    (s.serveWindow q w r).statusEntry = s.statusEntry ∧ (s.serveWindow q w r).statusWritten = s.statusWritten ∧
    (s.serveWindow q w r).command = s.command ∧ (s.serveWindow q w r).commandEntry = s.commandEntry ∧
    (s.serveWindow q w r).commandWritten = s.commandWritten ∧ (s.serveWindow q w r).tags = s.tags ∧
    (s.serveWindow q w r).passQueue = s.passQueue ∧ (s.serveWindow q w r).dreq = s.dreq ∧
    (s.serveWindow q w r).suspects = s.suspects ∧ (s.serveWindow q w r).sweepQueue = s.sweepQueue ∧
    (s.serveWindow q w r).intervals = s.intervals ∧ (s.serveWindow q w r).intervalDue = s.intervalDue ∧
    (s.serveWindow q w r).bindings = s.bindings ∧ (s.serveWindow q w r).chord = s.chord ∧
    (s.serveWindow q w r).levels = s.levels ∧ (s.serveWindow q w r).inputs = s.inputs ∧
    (s.serveWindow q w r).chordTimer = s.chordTimer ∧ (s.serveWindow q w r).chordFired = s.chordFired ∧
    (s.serveWindow q w r).servicePos = s.servicePos ∧ (s.serveWindow q w r).eventClaim = s.eventClaim ∧
    (s.serveWindow q w r).newCounts = s.newCounts ∧ (s.serveWindow q w r).logStyle = s.logStyle ∧
    (s.serveWindow q w r).logBase = s.logBase := by
  dsimp only [State.serveWindow]
  (repeat' split) <;> simp

@[simp] theorem examine_keeps (q : UpRequest) :
    (s.examine q).pending = s.pending ∧ (s.examine q).bootStage = s.bootStage ∧
    (s.examine q).resetKind = s.resetKind ∧ (s.examine q).setupSel = s.setupSel ∧
    (s.examine q).evLevels = s.evLevels ∧ (s.examine q).ursp = s.ursp ∧ (s.examine q).alert = s.alert ∧
    (s.examine q).tick = s.tick ∧ (s.examine q).cycles = s.cycles ∧ (s.examine q).wasActive = s.wasActive ∧
    (s.examine q).statusEntry = s.statusEntry ∧ (s.examine q).statusWritten = s.statusWritten ∧
    (s.examine q).commandEntry = s.commandEntry ∧ (s.examine q).commandWritten = s.commandWritten ∧
    (s.examine q).tags = s.tags ∧ (s.examine q).dreq = s.dreq ∧ (s.examine q).suspects = s.suspects ∧
    (s.examine q).bindings = s.bindings ∧ (s.examine q).chord = s.chord ∧ (s.examine q).logStyle = s.logStyle ∧
    (s.examine q).logBase = s.logBase := by
  dsimp only [State.examine]
  (repeat' split) <;> simp

@[simp] theorem examineHead_keeps :
    (s.examineHead).pending = s.pending ∧ (s.examineHead).bootStage = s.bootStage ∧
    (s.examineHead).resetKind = s.resetKind ∧ (s.examineHead).setupSel = s.setupSel ∧
    (s.examineHead).evLevels = s.evLevels ∧ (s.examineHead).ursp = s.ursp ∧ (s.examineHead).alert = s.alert ∧
    (s.examineHead).tick = s.tick ∧ (s.examineHead).cycles = s.cycles ∧ (s.examineHead).wasActive = s.wasActive ∧
    (s.examineHead).statusEntry = s.statusEntry ∧ (s.examineHead).statusWritten = s.statusWritten ∧
    (s.examineHead).commandEntry = s.commandEntry ∧ (s.examineHead).commandWritten = s.commandWritten ∧
    (s.examineHead).tags = s.tags ∧ (s.examineHead).dreq = s.dreq ∧ (s.examineHead).suspects = s.suspects ∧
    (s.examineHead).bindings = s.bindings ∧ (s.examineHead).chord = s.chord ∧
    (s.examineHead).logStyle = s.logStyle ∧ (s.examineHead).logBase = s.logBase := by
  dsimp only [State.examineHead]
  (repeat' split) <;> simp

end Sys2Proof.Machine
end

