-- ==== Sys2Proof/Laws/Clock.lean ====
section
/-!
SUPPORT. What an event's optional effect leaves as it is, and what a tick increment does.
-/

namespace Sys2Proof.Machine

variable (s : State)

@[simp] theorem expire_keeps (t : DownTag) :
    (((s.expire t).getD s)).pending = s.pending ∧ (((s.expire t).getD s)).bootStage = s.bootStage ∧
    (((s.expire t).getD s)).resetKind = s.resetKind ∧ (((s.expire t).getD s)).setupSel = s.setupSel ∧
    (((s.expire t).getD s)).evLevels = s.evLevels ∧ (((s.expire t).getD s)).ursp = s.ursp ∧
    (((s.expire t).getD s)).alert = s.alert ∧ (((s.expire t).getD s)).tick = s.tick ∧
    (((s.expire t).getD s)).cycles = s.cycles ∧ (((s.expire t).getD s)).partState = s.partState ∧
    (((s.expire t).getD s)).wasActive = s.wasActive ∧ (((s.expire t).getD s)).fellToDefault = s.fellToDefault ∧
    (((s.expire t).getD s)).boot = s.boot ∧ (((s.expire t).getD s)).live = s.live ∧
    (((s.expire t).getD s)).releaseClaim = s.releaseClaim ∧ (((s.expire t).getD s)).head = s.head ∧
    (((s.expire t).getD s)).passQueue = s.passQueue ∧ (((s.expire t).getD s)).dreq = s.dreq ∧
    (((s.expire t).getD s)).sweepQueue = s.sweepQueue ∧ (((s.expire t).getD s)).intervals = s.intervals ∧
    (((s.expire t).getD s)).intervalDue = s.intervalDue ∧ (((s.expire t).getD s)).bindings = s.bindings ∧
    (((s.expire t).getD s)).chord = s.chord ∧ (((s.expire t).getD s)).levels = s.levels ∧
    (((s.expire t).getD s)).inputs = s.inputs ∧ (((s.expire t).getD s)).chordTimer = s.chordTimer ∧
    (((s.expire t).getD s)).chordFired = s.chordFired ∧ (((s.expire t).getD s)).servicePos = s.servicePos ∧
    (((s.expire t).getD s)).eventClaim = s.eventClaim ∧ (((s.expire t).getD s)).newCounts = s.newCounts ∧
    (((s.expire t).getD s)).logStyle = s.logStyle ∧ (((s.expire t).getD s)).logBase = s.logBase := by
  dsimp only [State.expire]
  (repeat' split) <;> simp

@[simp] theorem foldl_expire_keeps (xs : List (DownTag)) :
    ((xs.foldl (fun acc x => (acc.expire x).getD acc) s)).pending = s.pending ∧
    ((xs.foldl (fun acc x => (acc.expire x).getD acc) s)).bootStage = s.bootStage ∧
    ((xs.foldl (fun acc x => (acc.expire x).getD acc) s)).resetKind = s.resetKind ∧
    ((xs.foldl (fun acc x => (acc.expire x).getD acc) s)).setupSel = s.setupSel ∧
    ((xs.foldl (fun acc x => (acc.expire x).getD acc) s)).evLevels = s.evLevels ∧
    ((xs.foldl (fun acc x => (acc.expire x).getD acc) s)).ursp = s.ursp ∧
    ((xs.foldl (fun acc x => (acc.expire x).getD acc) s)).alert = s.alert ∧
    ((xs.foldl (fun acc x => (acc.expire x).getD acc) s)).tick = s.tick ∧
    ((xs.foldl (fun acc x => (acc.expire x).getD acc) s)).cycles = s.cycles ∧
    ((xs.foldl (fun acc x => (acc.expire x).getD acc) s)).partState = s.partState ∧
    ((xs.foldl (fun acc x => (acc.expire x).getD acc) s)).wasActive = s.wasActive ∧
    ((xs.foldl (fun acc x => (acc.expire x).getD acc) s)).fellToDefault = s.fellToDefault ∧
    ((xs.foldl (fun acc x => (acc.expire x).getD acc) s)).boot = s.boot ∧
    ((xs.foldl (fun acc x => (acc.expire x).getD acc) s)).live = s.live ∧
    ((xs.foldl (fun acc x => (acc.expire x).getD acc) s)).releaseClaim = s.releaseClaim ∧
    ((xs.foldl (fun acc x => (acc.expire x).getD acc) s)).head = s.head ∧
    ((xs.foldl (fun acc x => (acc.expire x).getD acc) s)).passQueue = s.passQueue ∧
    ((xs.foldl (fun acc x => (acc.expire x).getD acc) s)).dreq = s.dreq ∧
    ((xs.foldl (fun acc x => (acc.expire x).getD acc) s)).sweepQueue = s.sweepQueue ∧
    ((xs.foldl (fun acc x => (acc.expire x).getD acc) s)).intervals = s.intervals ∧
    ((xs.foldl (fun acc x => (acc.expire x).getD acc) s)).intervalDue = s.intervalDue ∧
    ((xs.foldl (fun acc x => (acc.expire x).getD acc) s)).bindings = s.bindings ∧
    ((xs.foldl (fun acc x => (acc.expire x).getD acc) s)).chord = s.chord ∧
    ((xs.foldl (fun acc x => (acc.expire x).getD acc) s)).levels = s.levels ∧
    ((xs.foldl (fun acc x => (acc.expire x).getD acc) s)).inputs = s.inputs ∧
    ((xs.foldl (fun acc x => (acc.expire x).getD acc) s)).chordTimer = s.chordTimer ∧
    ((xs.foldl (fun acc x => (acc.expire x).getD acc) s)).chordFired = s.chordFired ∧
    ((xs.foldl (fun acc x => (acc.expire x).getD acc) s)).servicePos = s.servicePos ∧
    ((xs.foldl (fun acc x => (acc.expire x).getD acc) s)).eventClaim = s.eventClaim ∧
    ((xs.foldl (fun acc x => (acc.expire x).getD acc) s)).newCounts = s.newCounts ∧
    ((xs.foldl (fun acc x => (acc.expire x).getD acc) s)).logStyle = s.logStyle ∧
    ((xs.foldl (fun acc x => (acc.expire x).getD acc) s)).logBase = s.logBase := by
  induction xs generalizing s with
  | nil => simp
  | cons x xs ih => simp [ih]

@[simp] theorem settleChange_keeps (n : InputNo) :
    (((s.settleChange n).getD s)).pending = s.pending ∧ (((s.settleChange n).getD s)).bootStage = s.bootStage ∧
    (((s.settleChange n).getD s)).resetKind = s.resetKind ∧ (((s.settleChange n).getD s)).setupSel = s.setupSel ∧
    (((s.settleChange n).getD s)).evLevels = s.evLevels ∧ (((s.settleChange n).getD s)).ursp = s.ursp ∧
    (((s.settleChange n).getD s)).alert = s.alert ∧ (((s.settleChange n).getD s)).tick = s.tick ∧
    (((s.settleChange n).getD s)).cycles = s.cycles ∧ (((s.settleChange n).getD s)).partState = s.partState ∧
    (((s.settleChange n).getD s)).wasActive = s.wasActive ∧
    (((s.settleChange n).getD s)).fellToDefault = s.fellToDefault ∧ (((s.settleChange n).getD s)).boot = s.boot ∧
    (((s.settleChange n).getD s)).live = s.live ∧ (((s.settleChange n).getD s)).setup = s.setup ∧
    (((s.settleChange n).getD s)).releaseClaim = s.releaseClaim ∧
    (((s.settleChange n).getD s)).statusEntry = s.statusEntry ∧
    (((s.settleChange n).getD s)).statusWritten = s.statusWritten ∧
    (((s.settleChange n).getD s)).command = s.command ∧
    (((s.settleChange n).getD s)).commandEntry = s.commandEntry ∧
    (((s.settleChange n).getD s)).commandWritten = s.commandWritten ∧
    (((s.settleChange n).getD s)).outstanding = s.outstanding ∧ (((s.settleChange n).getD s)).head = s.head ∧
    (((s.settleChange n).getD s)).responses = s.responses ∧ (((s.settleChange n).getD s)).tags = s.tags ∧
    (((s.settleChange n).getD s)).passQueue = s.passQueue ∧ (((s.settleChange n).getD s)).dreq = s.dreq ∧
    (((s.settleChange n).getD s)).windows = s.windows ∧ (((s.settleChange n).getD s)).entries = s.entries ∧
    (((s.settleChange n).getD s)).suspects = s.suspects ∧ (((s.settleChange n).getD s)).sweepQueue = s.sweepQueue ∧
    (((s.settleChange n).getD s)).engine = s.engine ∧ (((s.settleChange n).getD s)).intervals = s.intervals ∧
    (((s.settleChange n).getD s)).intervalDue = s.intervalDue ∧
    (((s.settleChange n).getD s)).bindings = s.bindings ∧ (((s.settleChange n).getD s)).chord = s.chord ∧
    (((s.settleChange n).getD s)).servicePos = s.servicePos ∧ (((s.settleChange n).getD s)).logStyle = s.logStyle ∧
    (((s.settleChange n).getD s)).logBase = s.logBase := by
  dsimp only [State.settleChange]
  (repeat' split) <;> simp

@[simp] theorem foldl_settleChange_keeps (xs : List (InputNo)) :
    ((xs.foldl (fun acc x => (acc.settleChange x).getD acc) s)).pending = s.pending ∧
    ((xs.foldl (fun acc x => (acc.settleChange x).getD acc) s)).bootStage = s.bootStage ∧
    ((xs.foldl (fun acc x => (acc.settleChange x).getD acc) s)).resetKind = s.resetKind ∧
    ((xs.foldl (fun acc x => (acc.settleChange x).getD acc) s)).setupSel = s.setupSel ∧
    ((xs.foldl (fun acc x => (acc.settleChange x).getD acc) s)).evLevels = s.evLevels ∧
    ((xs.foldl (fun acc x => (acc.settleChange x).getD acc) s)).ursp = s.ursp ∧
    ((xs.foldl (fun acc x => (acc.settleChange x).getD acc) s)).alert = s.alert ∧
    ((xs.foldl (fun acc x => (acc.settleChange x).getD acc) s)).tick = s.tick ∧
    ((xs.foldl (fun acc x => (acc.settleChange x).getD acc) s)).cycles = s.cycles ∧
    ((xs.foldl (fun acc x => (acc.settleChange x).getD acc) s)).partState = s.partState ∧
    ((xs.foldl (fun acc x => (acc.settleChange x).getD acc) s)).wasActive = s.wasActive ∧
    ((xs.foldl (fun acc x => (acc.settleChange x).getD acc) s)).fellToDefault = s.fellToDefault ∧
    ((xs.foldl (fun acc x => (acc.settleChange x).getD acc) s)).boot = s.boot ∧
    ((xs.foldl (fun acc x => (acc.settleChange x).getD acc) s)).live = s.live ∧
    ((xs.foldl (fun acc x => (acc.settleChange x).getD acc) s)).setup = s.setup ∧
    ((xs.foldl (fun acc x => (acc.settleChange x).getD acc) s)).releaseClaim = s.releaseClaim ∧
    ((xs.foldl (fun acc x => (acc.settleChange x).getD acc) s)).statusEntry = s.statusEntry ∧
    ((xs.foldl (fun acc x => (acc.settleChange x).getD acc) s)).statusWritten = s.statusWritten ∧
    ((xs.foldl (fun acc x => (acc.settleChange x).getD acc) s)).command = s.command ∧
    ((xs.foldl (fun acc x => (acc.settleChange x).getD acc) s)).commandEntry = s.commandEntry ∧
    ((xs.foldl (fun acc x => (acc.settleChange x).getD acc) s)).commandWritten = s.commandWritten ∧
    ((xs.foldl (fun acc x => (acc.settleChange x).getD acc) s)).outstanding = s.outstanding ∧
    ((xs.foldl (fun acc x => (acc.settleChange x).getD acc) s)).head = s.head ∧
    ((xs.foldl (fun acc x => (acc.settleChange x).getD acc) s)).responses = s.responses ∧
    ((xs.foldl (fun acc x => (acc.settleChange x).getD acc) s)).tags = s.tags ∧
    ((xs.foldl (fun acc x => (acc.settleChange x).getD acc) s)).passQueue = s.passQueue ∧
    ((xs.foldl (fun acc x => (acc.settleChange x).getD acc) s)).dreq = s.dreq ∧
    ((xs.foldl (fun acc x => (acc.settleChange x).getD acc) s)).windows = s.windows ∧
    ((xs.foldl (fun acc x => (acc.settleChange x).getD acc) s)).entries = s.entries ∧
    ((xs.foldl (fun acc x => (acc.settleChange x).getD acc) s)).suspects = s.suspects ∧
    ((xs.foldl (fun acc x => (acc.settleChange x).getD acc) s)).sweepQueue = s.sweepQueue ∧
    ((xs.foldl (fun acc x => (acc.settleChange x).getD acc) s)).engine = s.engine ∧
    ((xs.foldl (fun acc x => (acc.settleChange x).getD acc) s)).intervals = s.intervals ∧
    ((xs.foldl (fun acc x => (acc.settleChange x).getD acc) s)).intervalDue = s.intervalDue ∧
    ((xs.foldl (fun acc x => (acc.settleChange x).getD acc) s)).bindings = s.bindings ∧
    ((xs.foldl (fun acc x => (acc.settleChange x).getD acc) s)).chord = s.chord ∧
    ((xs.foldl (fun acc x => (acc.settleChange x).getD acc) s)).servicePos = s.servicePos ∧
    ((xs.foldl (fun acc x => (acc.settleChange x).getD acc) s)).logStyle = s.logStyle ∧
    ((xs.foldl (fun acc x => (acc.settleChange x).getD acc) s)).logBase = s.logBase := by
  induction xs generalizing s with
  | nil => simp
  | cons x xs ih => simp [ih]

@[simp] theorem settleStuck_keeps (n : InputNo) :
    (((s.settleStuck n).getD s)).pending = s.pending ∧ (((s.settleStuck n).getD s)).bootStage = s.bootStage ∧
    (((s.settleStuck n).getD s)).resetKind = s.resetKind ∧ (((s.settleStuck n).getD s)).setupSel = s.setupSel ∧
    (((s.settleStuck n).getD s)).evLevels = s.evLevels ∧ (((s.settleStuck n).getD s)).ursp = s.ursp ∧
    (((s.settleStuck n).getD s)).alert = s.alert ∧ (((s.settleStuck n).getD s)).tick = s.tick ∧
    (((s.settleStuck n).getD s)).cycles = s.cycles ∧ (((s.settleStuck n).getD s)).partState = s.partState ∧
    (((s.settleStuck n).getD s)).wasActive = s.wasActive ∧
    (((s.settleStuck n).getD s)).fellToDefault = s.fellToDefault ∧ (((s.settleStuck n).getD s)).boot = s.boot ∧
    (((s.settleStuck n).getD s)).live = s.live ∧ (((s.settleStuck n).getD s)).setup = s.setup ∧
    (((s.settleStuck n).getD s)).releaseClaim = s.releaseClaim ∧
    (((s.settleStuck n).getD s)).statusEntry = s.statusEntry ∧
    (((s.settleStuck n).getD s)).statusWritten = s.statusWritten ∧
    (((s.settleStuck n).getD s)).command = s.command ∧ (((s.settleStuck n).getD s)).commandEntry = s.commandEntry ∧
    (((s.settleStuck n).getD s)).commandWritten = s.commandWritten ∧
    (((s.settleStuck n).getD s)).outstanding = s.outstanding ∧ (((s.settleStuck n).getD s)).head = s.head ∧
    (((s.settleStuck n).getD s)).responses = s.responses ∧ (((s.settleStuck n).getD s)).tags = s.tags ∧
    (((s.settleStuck n).getD s)).passQueue = s.passQueue ∧ (((s.settleStuck n).getD s)).dreq = s.dreq ∧
    (((s.settleStuck n).getD s)).windows = s.windows ∧ (((s.settleStuck n).getD s)).entries = s.entries ∧
    (((s.settleStuck n).getD s)).suspects = s.suspects ∧ (((s.settleStuck n).getD s)).sweepQueue = s.sweepQueue ∧
    (((s.settleStuck n).getD s)).engine = s.engine ∧ (((s.settleStuck n).getD s)).intervals = s.intervals ∧
    (((s.settleStuck n).getD s)).intervalDue = s.intervalDue ∧ (((s.settleStuck n).getD s)).bindings = s.bindings ∧
    (((s.settleStuck n).getD s)).chord = s.chord ∧ (((s.settleStuck n).getD s)).levels = s.levels ∧
    (((s.settleStuck n).getD s)).chordTimer = s.chordTimer ∧
    (((s.settleStuck n).getD s)).chordFired = s.chordFired ∧
    (((s.settleStuck n).getD s)).servicePos = s.servicePos ∧
    (((s.settleStuck n).getD s)).eventClaim = s.eventClaim ∧ (((s.settleStuck n).getD s)).newCounts = s.newCounts ∧
    (((s.settleStuck n).getD s)).logStyle = s.logStyle ∧ (((s.settleStuck n).getD s)).logBase = s.logBase := by
  dsimp only [State.settleStuck]
  (repeat' split) <;> simp

@[simp] theorem foldl_settleStuck_keeps (xs : List (InputNo)) :
    ((xs.foldl (fun acc x => (acc.settleStuck x).getD acc) s)).pending = s.pending ∧
    ((xs.foldl (fun acc x => (acc.settleStuck x).getD acc) s)).bootStage = s.bootStage ∧
    ((xs.foldl (fun acc x => (acc.settleStuck x).getD acc) s)).resetKind = s.resetKind ∧
    ((xs.foldl (fun acc x => (acc.settleStuck x).getD acc) s)).setupSel = s.setupSel ∧
    ((xs.foldl (fun acc x => (acc.settleStuck x).getD acc) s)).evLevels = s.evLevels ∧
    ((xs.foldl (fun acc x => (acc.settleStuck x).getD acc) s)).ursp = s.ursp ∧
    ((xs.foldl (fun acc x => (acc.settleStuck x).getD acc) s)).alert = s.alert ∧
    ((xs.foldl (fun acc x => (acc.settleStuck x).getD acc) s)).tick = s.tick ∧
    ((xs.foldl (fun acc x => (acc.settleStuck x).getD acc) s)).cycles = s.cycles ∧
    ((xs.foldl (fun acc x => (acc.settleStuck x).getD acc) s)).partState = s.partState ∧
    ((xs.foldl (fun acc x => (acc.settleStuck x).getD acc) s)).wasActive = s.wasActive ∧
    ((xs.foldl (fun acc x => (acc.settleStuck x).getD acc) s)).fellToDefault = s.fellToDefault ∧
    ((xs.foldl (fun acc x => (acc.settleStuck x).getD acc) s)).boot = s.boot ∧
    ((xs.foldl (fun acc x => (acc.settleStuck x).getD acc) s)).live = s.live ∧
    ((xs.foldl (fun acc x => (acc.settleStuck x).getD acc) s)).setup = s.setup ∧
    ((xs.foldl (fun acc x => (acc.settleStuck x).getD acc) s)).releaseClaim = s.releaseClaim ∧
    ((xs.foldl (fun acc x => (acc.settleStuck x).getD acc) s)).statusEntry = s.statusEntry ∧
    ((xs.foldl (fun acc x => (acc.settleStuck x).getD acc) s)).statusWritten = s.statusWritten ∧
    ((xs.foldl (fun acc x => (acc.settleStuck x).getD acc) s)).command = s.command ∧
    ((xs.foldl (fun acc x => (acc.settleStuck x).getD acc) s)).commandEntry = s.commandEntry ∧
    ((xs.foldl (fun acc x => (acc.settleStuck x).getD acc) s)).commandWritten = s.commandWritten ∧
    ((xs.foldl (fun acc x => (acc.settleStuck x).getD acc) s)).outstanding = s.outstanding ∧
    ((xs.foldl (fun acc x => (acc.settleStuck x).getD acc) s)).head = s.head ∧
    ((xs.foldl (fun acc x => (acc.settleStuck x).getD acc) s)).responses = s.responses ∧
    ((xs.foldl (fun acc x => (acc.settleStuck x).getD acc) s)).tags = s.tags ∧
    ((xs.foldl (fun acc x => (acc.settleStuck x).getD acc) s)).passQueue = s.passQueue ∧
    ((xs.foldl (fun acc x => (acc.settleStuck x).getD acc) s)).dreq = s.dreq ∧
    ((xs.foldl (fun acc x => (acc.settleStuck x).getD acc) s)).windows = s.windows ∧
    ((xs.foldl (fun acc x => (acc.settleStuck x).getD acc) s)).entries = s.entries ∧
    ((xs.foldl (fun acc x => (acc.settleStuck x).getD acc) s)).suspects = s.suspects ∧
    ((xs.foldl (fun acc x => (acc.settleStuck x).getD acc) s)).sweepQueue = s.sweepQueue ∧
    ((xs.foldl (fun acc x => (acc.settleStuck x).getD acc) s)).engine = s.engine ∧
    ((xs.foldl (fun acc x => (acc.settleStuck x).getD acc) s)).intervals = s.intervals ∧
    ((xs.foldl (fun acc x => (acc.settleStuck x).getD acc) s)).intervalDue = s.intervalDue ∧
    ((xs.foldl (fun acc x => (acc.settleStuck x).getD acc) s)).bindings = s.bindings ∧
    ((xs.foldl (fun acc x => (acc.settleStuck x).getD acc) s)).chord = s.chord ∧
    ((xs.foldl (fun acc x => (acc.settleStuck x).getD acc) s)).levels = s.levels ∧
    ((xs.foldl (fun acc x => (acc.settleStuck x).getD acc) s)).chordTimer = s.chordTimer ∧
    ((xs.foldl (fun acc x => (acc.settleStuck x).getD acc) s)).chordFired = s.chordFired ∧
    ((xs.foldl (fun acc x => (acc.settleStuck x).getD acc) s)).servicePos = s.servicePos ∧
    ((xs.foldl (fun acc x => (acc.settleStuck x).getD acc) s)).eventClaim = s.eventClaim ∧
    ((xs.foldl (fun acc x => (acc.settleStuck x).getD acc) s)).newCounts = s.newCounts ∧
    ((xs.foldl (fun acc x => (acc.settleStuck x).getD acc) s)).logStyle = s.logStyle ∧
    ((xs.foldl (fun acc x => (acc.settleStuck x).getD acc) s)).logBase = s.logBase := by
  induction xs generalizing s with
  | nil => simp
  | cons x xs ih => simp [ih]

@[simp] theorem settleChord_keeps :
    (((s.settleChord).getD s)).pending = s.pending ∧ (((s.settleChord).getD s)).bootStage = s.bootStage ∧
    (((s.settleChord).getD s)).resetKind = s.resetKind ∧ (((s.settleChord).getD s)).setupSel = s.setupSel ∧
    (((s.settleChord).getD s)).evLevels = s.evLevels ∧ (((s.settleChord).getD s)).ursp = s.ursp ∧
    (((s.settleChord).getD s)).alert = s.alert ∧ (((s.settleChord).getD s)).tick = s.tick ∧
    (((s.settleChord).getD s)).cycles = s.cycles ∧ (((s.settleChord).getD s)).partState = s.partState ∧
    (((s.settleChord).getD s)).wasActive = s.wasActive ∧
    (((s.settleChord).getD s)).fellToDefault = s.fellToDefault ∧ (((s.settleChord).getD s)).boot = s.boot ∧
    (((s.settleChord).getD s)).live = s.live ∧ (((s.settleChord).getD s)).setup = s.setup ∧
    (((s.settleChord).getD s)).releaseClaim = s.releaseClaim ∧
    (((s.settleChord).getD s)).statusEntry = s.statusEntry ∧
    (((s.settleChord).getD s)).statusWritten = s.statusWritten ∧ (((s.settleChord).getD s)).command = s.command ∧
    (((s.settleChord).getD s)).commandEntry = s.commandEntry ∧
    (((s.settleChord).getD s)).commandWritten = s.commandWritten ∧
    (((s.settleChord).getD s)).outstanding = s.outstanding ∧ (((s.settleChord).getD s)).head = s.head ∧
    (((s.settleChord).getD s)).responses = s.responses ∧ (((s.settleChord).getD s)).tags = s.tags ∧
    (((s.settleChord).getD s)).passQueue = s.passQueue ∧ (((s.settleChord).getD s)).dreq = s.dreq ∧
    (((s.settleChord).getD s)).windows = s.windows ∧ (((s.settleChord).getD s)).entries = s.entries ∧
    (((s.settleChord).getD s)).suspects = s.suspects ∧ (((s.settleChord).getD s)).engine = s.engine ∧
    (((s.settleChord).getD s)).intervals = s.intervals ∧ (((s.settleChord).getD s)).intervalDue = s.intervalDue ∧
    (((s.settleChord).getD s)).bindings = s.bindings ∧ (((s.settleChord).getD s)).chord = s.chord ∧
    (((s.settleChord).getD s)).levels = s.levels ∧ (((s.settleChord).getD s)).inputs = s.inputs ∧
    (((s.settleChord).getD s)).chordTimer = s.chordTimer ∧ (((s.settleChord).getD s)).servicePos = s.servicePos ∧
    (((s.settleChord).getD s)).eventClaim = s.eventClaim ∧ (((s.settleChord).getD s)).newCounts = s.newCounts ∧
    (((s.settleChord).getD s)).logStyle = s.logStyle ∧ (((s.settleChord).getD s)).logBase = s.logBase := by
  dsimp only [State.settleChord]
  (repeat' split) <;> simp

@[simp] theorem settleInterval_keeps (w : WindowNo) :
    (((s.settleInterval w).getD s)).pending = s.pending ∧ (((s.settleInterval w).getD s)).bootStage = s.bootStage ∧
    (((s.settleInterval w).getD s)).resetKind = s.resetKind ∧
    (((s.settleInterval w).getD s)).setupSel = s.setupSel ∧ (((s.settleInterval w).getD s)).evLevels = s.evLevels ∧
    (((s.settleInterval w).getD s)).ursp = s.ursp ∧ (((s.settleInterval w).getD s)).alert = s.alert ∧
    (((s.settleInterval w).getD s)).tick = s.tick ∧ (((s.settleInterval w).getD s)).cycles = s.cycles ∧
    (((s.settleInterval w).getD s)).partState = s.partState ∧
    (((s.settleInterval w).getD s)).wasActive = s.wasActive ∧
    (((s.settleInterval w).getD s)).fellToDefault = s.fellToDefault ∧
    (((s.settleInterval w).getD s)).boot = s.boot ∧ (((s.settleInterval w).getD s)).live = s.live ∧
    (((s.settleInterval w).getD s)).setup = s.setup ∧
    (((s.settleInterval w).getD s)).releaseClaim = s.releaseClaim ∧
    (((s.settleInterval w).getD s)).statusEntry = s.statusEntry ∧
    (((s.settleInterval w).getD s)).statusWritten = s.statusWritten ∧
    (((s.settleInterval w).getD s)).command = s.command ∧
    (((s.settleInterval w).getD s)).commandEntry = s.commandEntry ∧
    (((s.settleInterval w).getD s)).commandWritten = s.commandWritten ∧
    (((s.settleInterval w).getD s)).outstanding = s.outstanding ∧ (((s.settleInterval w).getD s)).head = s.head ∧
    (((s.settleInterval w).getD s)).responses = s.responses ∧ (((s.settleInterval w).getD s)).tags = s.tags ∧
    (((s.settleInterval w).getD s)).passQueue = s.passQueue ∧ (((s.settleInterval w).getD s)).dreq = s.dreq ∧
    (((s.settleInterval w).getD s)).windows = s.windows ∧ (((s.settleInterval w).getD s)).entries = s.entries ∧
    (((s.settleInterval w).getD s)).suspects = s.suspects ∧ (((s.settleInterval w).getD s)).engine = s.engine ∧
    (((s.settleInterval w).getD s)).bindings = s.bindings ∧ (((s.settleInterval w).getD s)).chord = s.chord ∧
    (((s.settleInterval w).getD s)).levels = s.levels ∧ (((s.settleInterval w).getD s)).inputs = s.inputs ∧
    (((s.settleInterval w).getD s)).chordTimer = s.chordTimer ∧
    (((s.settleInterval w).getD s)).chordFired = s.chordFired ∧
    (((s.settleInterval w).getD s)).servicePos = s.servicePos ∧
    (((s.settleInterval w).getD s)).eventClaim = s.eventClaim ∧
    (((s.settleInterval w).getD s)).newCounts = s.newCounts ∧
    (((s.settleInterval w).getD s)).logStyle = s.logStyle ∧ (((s.settleInterval w).getD s)).logBase = s.logBase := by
  dsimp only [State.settleInterval]
  (repeat' split) <;> simp

@[simp] theorem foldl_settleInterval_keeps (xs : List (WindowNo)) :
    ((xs.foldl (fun acc x => (acc.settleInterval x).getD acc) s)).pending = s.pending ∧
    ((xs.foldl (fun acc x => (acc.settleInterval x).getD acc) s)).bootStage = s.bootStage ∧
    ((xs.foldl (fun acc x => (acc.settleInterval x).getD acc) s)).resetKind = s.resetKind ∧
    ((xs.foldl (fun acc x => (acc.settleInterval x).getD acc) s)).setupSel = s.setupSel ∧
    ((xs.foldl (fun acc x => (acc.settleInterval x).getD acc) s)).evLevels = s.evLevels ∧
    ((xs.foldl (fun acc x => (acc.settleInterval x).getD acc) s)).ursp = s.ursp ∧
    ((xs.foldl (fun acc x => (acc.settleInterval x).getD acc) s)).alert = s.alert ∧
    ((xs.foldl (fun acc x => (acc.settleInterval x).getD acc) s)).tick = s.tick ∧
    ((xs.foldl (fun acc x => (acc.settleInterval x).getD acc) s)).cycles = s.cycles ∧
    ((xs.foldl (fun acc x => (acc.settleInterval x).getD acc) s)).partState = s.partState ∧
    ((xs.foldl (fun acc x => (acc.settleInterval x).getD acc) s)).wasActive = s.wasActive ∧
    ((xs.foldl (fun acc x => (acc.settleInterval x).getD acc) s)).fellToDefault = s.fellToDefault ∧
    ((xs.foldl (fun acc x => (acc.settleInterval x).getD acc) s)).boot = s.boot ∧
    ((xs.foldl (fun acc x => (acc.settleInterval x).getD acc) s)).live = s.live ∧
    ((xs.foldl (fun acc x => (acc.settleInterval x).getD acc) s)).setup = s.setup ∧
    ((xs.foldl (fun acc x => (acc.settleInterval x).getD acc) s)).releaseClaim = s.releaseClaim ∧
    ((xs.foldl (fun acc x => (acc.settleInterval x).getD acc) s)).statusEntry = s.statusEntry ∧
    ((xs.foldl (fun acc x => (acc.settleInterval x).getD acc) s)).statusWritten = s.statusWritten ∧
    ((xs.foldl (fun acc x => (acc.settleInterval x).getD acc) s)).command = s.command ∧
    ((xs.foldl (fun acc x => (acc.settleInterval x).getD acc) s)).commandEntry = s.commandEntry ∧
    ((xs.foldl (fun acc x => (acc.settleInterval x).getD acc) s)).commandWritten = s.commandWritten ∧
    ((xs.foldl (fun acc x => (acc.settleInterval x).getD acc) s)).outstanding = s.outstanding ∧
    ((xs.foldl (fun acc x => (acc.settleInterval x).getD acc) s)).head = s.head ∧
    ((xs.foldl (fun acc x => (acc.settleInterval x).getD acc) s)).responses = s.responses ∧
    ((xs.foldl (fun acc x => (acc.settleInterval x).getD acc) s)).tags = s.tags ∧
    ((xs.foldl (fun acc x => (acc.settleInterval x).getD acc) s)).passQueue = s.passQueue ∧
    ((xs.foldl (fun acc x => (acc.settleInterval x).getD acc) s)).dreq = s.dreq ∧
    ((xs.foldl (fun acc x => (acc.settleInterval x).getD acc) s)).windows = s.windows ∧
    ((xs.foldl (fun acc x => (acc.settleInterval x).getD acc) s)).entries = s.entries ∧
    ((xs.foldl (fun acc x => (acc.settleInterval x).getD acc) s)).suspects = s.suspects ∧
    ((xs.foldl (fun acc x => (acc.settleInterval x).getD acc) s)).engine = s.engine ∧
    ((xs.foldl (fun acc x => (acc.settleInterval x).getD acc) s)).bindings = s.bindings ∧
    ((xs.foldl (fun acc x => (acc.settleInterval x).getD acc) s)).chord = s.chord ∧
    ((xs.foldl (fun acc x => (acc.settleInterval x).getD acc) s)).levels = s.levels ∧
    ((xs.foldl (fun acc x => (acc.settleInterval x).getD acc) s)).inputs = s.inputs ∧
    ((xs.foldl (fun acc x => (acc.settleInterval x).getD acc) s)).chordTimer = s.chordTimer ∧
    ((xs.foldl (fun acc x => (acc.settleInterval x).getD acc) s)).chordFired = s.chordFired ∧
    ((xs.foldl (fun acc x => (acc.settleInterval x).getD acc) s)).servicePos = s.servicePos ∧
    ((xs.foldl (fun acc x => (acc.settleInterval x).getD acc) s)).eventClaim = s.eventClaim ∧
    ((xs.foldl (fun acc x => (acc.settleInterval x).getD acc) s)).newCounts = s.newCounts ∧
    ((xs.foldl (fun acc x => (acc.settleInterval x).getD acc) s)).logStyle = s.logStyle ∧
    ((xs.foldl (fun acc x => (acc.settleInterval x).getD acc) s)).logBase = s.logBase := by
  induction xs generalizing s with
  | nil => simp
  | cons x xs ih => simp [ih]

@[simp] theorem settle_keeps :
    (s.settle).pending = s.pending ∧ (s.settle).bootStage = s.bootStage ∧ (s.settle).resetKind = s.resetKind ∧
    (s.settle).setupSel = s.setupSel ∧ (s.settle).evLevels = s.evLevels ∧ (s.settle).ursp = s.ursp ∧
    (s.settle).alert = s.alert ∧ (s.settle).tick = s.tick ∧ (s.settle).cycles = s.cycles ∧
    (s.settle).partState = s.partState ∧ (s.settle).wasActive = s.wasActive ∧
    (s.settle).fellToDefault = s.fellToDefault ∧ (s.settle).boot = s.boot ∧ (s.settle).live = s.live ∧
    (s.settle).releaseClaim = s.releaseClaim ∧ (s.settle).head = s.head ∧ (s.settle).passQueue = s.passQueue ∧
    (s.settle).dreq = s.dreq ∧ (s.settle).bindings = s.bindings ∧ (s.settle).chord = s.chord ∧
    (s.settle).servicePos = s.servicePos ∧ (s.settle).logStyle = s.logStyle ∧ (s.settle).logBase = s.logBase := by
  simp [State.settle]

@[simp] theorem passTick_keeps (v : BitVec 4) :
    (s.passTick v).pending = s.pending ∧ (s.passTick v).bootStage = s.bootStage ∧
    (s.passTick v).resetKind = s.resetKind ∧ (s.passTick v).setupSel = s.setupSel ∧ (s.passTick v).alert = s.alert ∧
    (s.passTick v).partState = s.partState ∧ (s.passTick v).wasActive = s.wasActive ∧
    (s.passTick v).fellToDefault = s.fellToDefault ∧ (s.passTick v).boot = s.boot ∧ (s.passTick v).live = s.live ∧
    (s.passTick v).releaseClaim = s.releaseClaim ∧ (s.passTick v).head = s.head ∧
    (s.passTick v).passQueue = s.passQueue ∧ (s.passTick v).dreq = s.dreq ∧ (s.passTick v).bindings = s.bindings ∧
    (s.passTick v).chord = s.chord ∧ (s.passTick v).servicePos = s.servicePos ∧
    (s.passTick v).logStyle = s.logStyle ∧ (s.passTick v).logBase = s.logBase := by
  dsimp only [State.passTick]
  (repeat' split) <;> simp

@[simp] theorem takeResponse_keeps (r : DownResponse) :
    (((s.takeResponse r).getD s)).pending = s.pending ∧ (((s.takeResponse r).getD s)).bootStage = s.bootStage ∧
    (((s.takeResponse r).getD s)).resetKind = s.resetKind ∧ (((s.takeResponse r).getD s)).setupSel = s.setupSel ∧
    (((s.takeResponse r).getD s)).evLevels = s.evLevels ∧ (((s.takeResponse r).getD s)).ursp = s.ursp ∧
    (((s.takeResponse r).getD s)).alert = s.alert ∧ (((s.takeResponse r).getD s)).tick = s.tick ∧
    (((s.takeResponse r).getD s)).cycles = s.cycles ∧ (((s.takeResponse r).getD s)).partState = s.partState ∧
    (((s.takeResponse r).getD s)).wasActive = s.wasActive ∧
    (((s.takeResponse r).getD s)).fellToDefault = s.fellToDefault ∧ (((s.takeResponse r).getD s)).boot = s.boot ∧
    (((s.takeResponse r).getD s)).live = s.live ∧ (((s.takeResponse r).getD s)).releaseClaim = s.releaseClaim ∧
    (((s.takeResponse r).getD s)).head = s.head ∧ (((s.takeResponse r).getD s)).passQueue = s.passQueue ∧
    (((s.takeResponse r).getD s)).dreq = s.dreq ∧ (((s.takeResponse r).getD s)).sweepQueue = s.sweepQueue ∧
    (((s.takeResponse r).getD s)).intervals = s.intervals ∧
    (((s.takeResponse r).getD s)).intervalDue = s.intervalDue ∧
    (((s.takeResponse r).getD s)).bindings = s.bindings ∧ (((s.takeResponse r).getD s)).chord = s.chord ∧
    (((s.takeResponse r).getD s)).levels = s.levels ∧ (((s.takeResponse r).getD s)).inputs = s.inputs ∧
    (((s.takeResponse r).getD s)).chordTimer = s.chordTimer ∧
    (((s.takeResponse r).getD s)).chordFired = s.chordFired ∧
    (((s.takeResponse r).getD s)).servicePos = s.servicePos ∧
    (((s.takeResponse r).getD s)).eventClaim = s.eventClaim ∧
    (((s.takeResponse r).getD s)).newCounts = s.newCounts ∧ (((s.takeResponse r).getD s)).logStyle = s.logStyle ∧
    (((s.takeResponse r).getD s)).logBase = s.logBase := by
  dsimp only [State.takeResponse]
  (repeat' split) <;> simp

@[simp] theorem grantNext_keeps :
    (((s.grantNext).getD s)).pending = s.pending ∧ (((s.grantNext).getD s)).bootStage = s.bootStage ∧
    (((s.grantNext).getD s)).resetKind = s.resetKind ∧ (((s.grantNext).getD s)).setupSel = s.setupSel ∧
    (((s.grantNext).getD s)).evLevels = s.evLevels ∧ (((s.grantNext).getD s)).ursp = s.ursp ∧
    (((s.grantNext).getD s)).alert = s.alert ∧ (((s.grantNext).getD s)).tick = s.tick ∧
    (((s.grantNext).getD s)).cycles = s.cycles ∧ (((s.grantNext).getD s)).partState = s.partState ∧
    (((s.grantNext).getD s)).wasActive = s.wasActive ∧ (((s.grantNext).getD s)).fellToDefault = s.fellToDefault ∧
    (((s.grantNext).getD s)).boot = s.boot ∧ (((s.grantNext).getD s)).live = s.live ∧
    (((s.grantNext).getD s)).releaseClaim = s.releaseClaim ∧ (((s.grantNext).getD s)).flags = s.flags ∧
    (((s.grantNext).getD s)).statusWritten = s.statusWritten ∧ (((s.grantNext).getD s)).command = s.command ∧
    (((s.grantNext).getD s)).commandWritten = s.commandWritten ∧
    (((s.grantNext).getD s)).outstanding = s.outstanding ∧ (((s.grantNext).getD s)).head = s.head ∧
    (((s.grantNext).getD s)).responses = s.responses ∧ (((s.grantNext).getD s)).windows = s.windows ∧
    (((s.grantNext).getD s)).suspects = s.suspects ∧ (((s.grantNext).getD s)).sweepQueue = s.sweepQueue ∧
    (((s.grantNext).getD s)).intervals = s.intervals ∧ (((s.grantNext).getD s)).intervalDue = s.intervalDue ∧
    (((s.grantNext).getD s)).bindings = s.bindings ∧ (((s.grantNext).getD s)).chord = s.chord ∧
    (((s.grantNext).getD s)).levels = s.levels ∧ (((s.grantNext).getD s)).inputs = s.inputs ∧
    (((s.grantNext).getD s)).chordTimer = s.chordTimer ∧ (((s.grantNext).getD s)).chordFired = s.chordFired ∧
    (((s.grantNext).getD s)).servicePos = s.servicePos ∧ (((s.grantNext).getD s)).eventClaim = s.eventClaim ∧
    (((s.grantNext).getD s)).newCounts = s.newCounts ∧ (((s.grantNext).getD s)).logStyle = s.logStyle ∧
    (((s.grantNext).getD s)).logBase = s.logBase ∧ (((s.grantNext).getD s)).logNext = s.logNext ∧
    (((s.grantNext).getD s)).logHeld = s.logHeld := by
  dsimp only [State.grantNext]
  (repeat' split) <;> simp

@[simp] theorem presentNext_keeps :
    (((s.presentNext).getD s)).pending = s.pending ∧ (((s.presentNext).getD s)).bootStage = s.bootStage ∧
    (((s.presentNext).getD s)).resetKind = s.resetKind ∧ (((s.presentNext).getD s)).setupSel = s.setupSel ∧
    (((s.presentNext).getD s)).evLevels = s.evLevels ∧ (((s.presentNext).getD s)).ursp = s.ursp ∧
    (((s.presentNext).getD s)).alert = s.alert ∧ (((s.presentNext).getD s)).tick = s.tick ∧
    (((s.presentNext).getD s)).cycles = s.cycles ∧ (((s.presentNext).getD s)).partState = s.partState ∧
    (((s.presentNext).getD s)).wasActive = s.wasActive ∧
    (((s.presentNext).getD s)).fellToDefault = s.fellToDefault ∧ (((s.presentNext).getD s)).boot = s.boot ∧
    (((s.presentNext).getD s)).live = s.live ∧ (((s.presentNext).getD s)).setup = s.setup ∧
    (((s.presentNext).getD s)).releaseClaim = s.releaseClaim ∧ (((s.presentNext).getD s)).flags = s.flags ∧
    (((s.presentNext).getD s)).statusEntry = s.statusEntry ∧
    (((s.presentNext).getD s)).statusWritten = s.statusWritten ∧ (((s.presentNext).getD s)).command = s.command ∧
    (((s.presentNext).getD s)).commandEntry = s.commandEntry ∧
    (((s.presentNext).getD s)).commandWritten = s.commandWritten ∧
    (((s.presentNext).getD s)).outstanding = s.outstanding ∧ (((s.presentNext).getD s)).head = s.head ∧
    (((s.presentNext).getD s)).responses = s.responses ∧ (((s.presentNext).getD s)).tags = s.tags ∧
    (((s.presentNext).getD s)).passQueue = s.passQueue ∧ (((s.presentNext).getD s)).windows = s.windows ∧
    (((s.presentNext).getD s)).entries = s.entries ∧ (((s.presentNext).getD s)).suspects = s.suspects ∧
    (((s.presentNext).getD s)).sweepQueue = s.sweepQueue ∧ (((s.presentNext).getD s)).engine = s.engine ∧
    (((s.presentNext).getD s)).intervals = s.intervals ∧ (((s.presentNext).getD s)).intervalDue = s.intervalDue ∧
    (((s.presentNext).getD s)).bindings = s.bindings ∧ (((s.presentNext).getD s)).chord = s.chord ∧
    (((s.presentNext).getD s)).levels = s.levels ∧ (((s.presentNext).getD s)).inputs = s.inputs ∧
    (((s.presentNext).getD s)).chordTimer = s.chordTimer ∧ (((s.presentNext).getD s)).chordFired = s.chordFired ∧
    (((s.presentNext).getD s)).servicePos = s.servicePos ∧ (((s.presentNext).getD s)).eventClaim = s.eventClaim ∧
    (((s.presentNext).getD s)).newCounts = s.newCounts ∧ (((s.presentNext).getD s)).logStyle = s.logStyle ∧
    (((s.presentNext).getD s)).logBase = s.logBase ∧ (((s.presentNext).getD s)).logNext = s.logNext ∧
    (((s.presentNext).getD s)).logHeld = s.logHeld ∧ (((s.presentNext).getD s)).logQueue = s.logQueue := by
  dsimp only [State.presentNext]
  (repeat' split) <;> simp

@[simp] theorem sendResponse_keeps :
    (((s.sendResponse).getD s)).pending = s.pending ∧ (((s.sendResponse).getD s)).bootStage = s.bootStage ∧
    (((s.sendResponse).getD s)).resetKind = s.resetKind ∧ (((s.sendResponse).getD s)).setupSel = s.setupSel ∧
    (((s.sendResponse).getD s)).evLevels = s.evLevels ∧ (((s.sendResponse).getD s)).alert = s.alert ∧
    (((s.sendResponse).getD s)).tick = s.tick ∧ (((s.sendResponse).getD s)).cycles = s.cycles ∧
    (((s.sendResponse).getD s)).partState = s.partState ∧ (((s.sendResponse).getD s)).wasActive = s.wasActive ∧
    (((s.sendResponse).getD s)).fellToDefault = s.fellToDefault ∧ (((s.sendResponse).getD s)).boot = s.boot ∧
    (((s.sendResponse).getD s)).live = s.live ∧ (((s.sendResponse).getD s)).setup = s.setup ∧
    (((s.sendResponse).getD s)).releaseClaim = s.releaseClaim ∧ (((s.sendResponse).getD s)).flags = s.flags ∧
    (((s.sendResponse).getD s)).statusEntry = s.statusEntry ∧
    (((s.sendResponse).getD s)).statusWritten = s.statusWritten ∧ (((s.sendResponse).getD s)).command = s.command ∧
    (((s.sendResponse).getD s)).commandEntry = s.commandEntry ∧
    (((s.sendResponse).getD s)).commandWritten = s.commandWritten ∧
    (((s.sendResponse).getD s)).outstanding = s.outstanding ∧ (((s.sendResponse).getD s)).head = s.head ∧
    (((s.sendResponse).getD s)).tags = s.tags ∧ (((s.sendResponse).getD s)).passQueue = s.passQueue ∧
    (((s.sendResponse).getD s)).dreq = s.dreq ∧ (((s.sendResponse).getD s)).windows = s.windows ∧
    (((s.sendResponse).getD s)).entries = s.entries ∧ (((s.sendResponse).getD s)).suspects = s.suspects ∧
    (((s.sendResponse).getD s)).sweepQueue = s.sweepQueue ∧ (((s.sendResponse).getD s)).engine = s.engine ∧
    (((s.sendResponse).getD s)).intervals = s.intervals ∧ (((s.sendResponse).getD s)).intervalDue = s.intervalDue ∧
    (((s.sendResponse).getD s)).bindings = s.bindings ∧ (((s.sendResponse).getD s)).chord = s.chord ∧
    (((s.sendResponse).getD s)).levels = s.levels ∧ (((s.sendResponse).getD s)).inputs = s.inputs ∧
    (((s.sendResponse).getD s)).chordTimer = s.chordTimer ∧ (((s.sendResponse).getD s)).chordFired = s.chordFired ∧
    (((s.sendResponse).getD s)).servicePos = s.servicePos ∧ (((s.sendResponse).getD s)).eventClaim = s.eventClaim ∧
    (((s.sendResponse).getD s)).newCounts = s.newCounts ∧ (((s.sendResponse).getD s)).logStyle = s.logStyle ∧
    (((s.sendResponse).getD s)).logBase = s.logBase ∧ (((s.sendResponse).getD s)).logNext = s.logNext ∧
    (((s.sendResponse).getD s)).logHeld = s.logHeld ∧ (((s.sendResponse).getD s)).logQueue = s.logQueue := by
  dsimp only [State.sendResponse]
  (repeat' split) <;> simp

@[simp] theorem takeEventClaim_keeps :
    (((s.takeEventClaim).getD s)).pending = s.pending ∧ (((s.takeEventClaim).getD s)).bootStage = s.bootStage ∧
    (((s.takeEventClaim).getD s)).resetKind = s.resetKind ∧ (((s.takeEventClaim).getD s)).setupSel = s.setupSel ∧
    (((s.takeEventClaim).getD s)).evLevels = s.evLevels ∧ (((s.takeEventClaim).getD s)).ursp = s.ursp ∧
    (((s.takeEventClaim).getD s)).alert = s.alert ∧ (((s.takeEventClaim).getD s)).tick = s.tick ∧
    (((s.takeEventClaim).getD s)).cycles = s.cycles ∧ (((s.takeEventClaim).getD s)).partState = s.partState ∧
    (((s.takeEventClaim).getD s)).wasActive = s.wasActive ∧
    (((s.takeEventClaim).getD s)).fellToDefault = s.fellToDefault ∧ (((s.takeEventClaim).getD s)).boot = s.boot ∧
    (((s.takeEventClaim).getD s)).live = s.live ∧ (((s.takeEventClaim).getD s)).setup = s.setup ∧
    (((s.takeEventClaim).getD s)).releaseClaim = s.releaseClaim ∧
    (((s.takeEventClaim).getD s)).statusEntry = s.statusEntry ∧
    (((s.takeEventClaim).getD s)).statusWritten = s.statusWritten ∧
    (((s.takeEventClaim).getD s)).command = s.command ∧
    (((s.takeEventClaim).getD s)).commandEntry = s.commandEntry ∧
    (((s.takeEventClaim).getD s)).commandWritten = s.commandWritten ∧ (((s.takeEventClaim).getD s)).head = s.head ∧
    (((s.takeEventClaim).getD s)).tags = s.tags ∧ (((s.takeEventClaim).getD s)).passQueue = s.passQueue ∧
    (((s.takeEventClaim).getD s)).dreq = s.dreq ∧ (((s.takeEventClaim).getD s)).suspects = s.suspects ∧
    (((s.takeEventClaim).getD s)).sweepQueue = s.sweepQueue ∧
    (((s.takeEventClaim).getD s)).intervals = s.intervals ∧
    (((s.takeEventClaim).getD s)).intervalDue = s.intervalDue ∧
    (((s.takeEventClaim).getD s)).bindings = s.bindings ∧ (((s.takeEventClaim).getD s)).chord = s.chord ∧
    (((s.takeEventClaim).getD s)).levels = s.levels ∧ (((s.takeEventClaim).getD s)).chordTimer = s.chordTimer ∧
    (((s.takeEventClaim).getD s)).chordFired = s.chordFired ∧
    (((s.takeEventClaim).getD s)).newCounts = s.newCounts ∧ (((s.takeEventClaim).getD s)).logStyle = s.logStyle ∧
    (((s.takeEventClaim).getD s)).logBase = s.logBase := by
  dsimp only [State.takeEventClaim]
  unfold Option.map
  (repeat' split) <;> simp

@[simp] theorem takeSweepClaim_keeps :
    (((s.takeSweepClaim).getD s)).pending = s.pending ∧ (((s.takeSweepClaim).getD s)).bootStage = s.bootStage ∧
    (((s.takeSweepClaim).getD s)).resetKind = s.resetKind ∧ (((s.takeSweepClaim).getD s)).setupSel = s.setupSel ∧
    (((s.takeSweepClaim).getD s)).evLevels = s.evLevels ∧ (((s.takeSweepClaim).getD s)).ursp = s.ursp ∧
    (((s.takeSweepClaim).getD s)).alert = s.alert ∧ (((s.takeSweepClaim).getD s)).tick = s.tick ∧
    (((s.takeSweepClaim).getD s)).cycles = s.cycles ∧ (((s.takeSweepClaim).getD s)).partState = s.partState ∧
    (((s.takeSweepClaim).getD s)).wasActive = s.wasActive ∧
    (((s.takeSweepClaim).getD s)).fellToDefault = s.fellToDefault ∧ (((s.takeSweepClaim).getD s)).boot = s.boot ∧
    (((s.takeSweepClaim).getD s)).live = s.live ∧ (((s.takeSweepClaim).getD s)).setup = s.setup ∧
    (((s.takeSweepClaim).getD s)).releaseClaim = s.releaseClaim ∧
    (((s.takeSweepClaim).getD s)).statusEntry = s.statusEntry ∧
    (((s.takeSweepClaim).getD s)).statusWritten = s.statusWritten ∧
    (((s.takeSweepClaim).getD s)).command = s.command ∧
    (((s.takeSweepClaim).getD s)).commandEntry = s.commandEntry ∧
    (((s.takeSweepClaim).getD s)).commandWritten = s.commandWritten ∧ (((s.takeSweepClaim).getD s)).head = s.head ∧
    (((s.takeSweepClaim).getD s)).tags = s.tags ∧ (((s.takeSweepClaim).getD s)).passQueue = s.passQueue ∧
    (((s.takeSweepClaim).getD s)).dreq = s.dreq ∧ (((s.takeSweepClaim).getD s)).sweepQueue = s.sweepQueue ∧
    (((s.takeSweepClaim).getD s)).intervals = s.intervals ∧
    (((s.takeSweepClaim).getD s)).intervalDue = s.intervalDue ∧
    (((s.takeSweepClaim).getD s)).bindings = s.bindings ∧ (((s.takeSweepClaim).getD s)).chord = s.chord ∧
    (((s.takeSweepClaim).getD s)).levels = s.levels ∧ (((s.takeSweepClaim).getD s)).inputs = s.inputs ∧
    (((s.takeSweepClaim).getD s)).chordTimer = s.chordTimer ∧
    (((s.takeSweepClaim).getD s)).chordFired = s.chordFired ∧
    (((s.takeSweepClaim).getD s)).servicePos = s.servicePos ∧
    (((s.takeSweepClaim).getD s)).eventClaim = s.eventClaim ∧
    (((s.takeSweepClaim).getD s)).newCounts = s.newCounts ∧ (((s.takeSweepClaim).getD s)).logStyle = s.logStyle ∧
    (((s.takeSweepClaim).getD s)).logBase = s.logBase := by
  dsimp only [State.takeSweepClaim]
  (repeat' split) <;> simp

@[simp] theorem takeReleaseClaim_keeps :
    (((s.takeReleaseClaim).getD s)).pending = s.pending ∧ (((s.takeReleaseClaim).getD s)).bootStage = s.bootStage ∧
    (((s.takeReleaseClaim).getD s)).resetKind = s.resetKind ∧
    (((s.takeReleaseClaim).getD s)).setupSel = s.setupSel ∧ (((s.takeReleaseClaim).getD s)).evLevels = s.evLevels ∧
    (((s.takeReleaseClaim).getD s)).ursp = s.ursp ∧ (((s.takeReleaseClaim).getD s)).alert = s.alert ∧
    (((s.takeReleaseClaim).getD s)).tick = s.tick ∧ (((s.takeReleaseClaim).getD s)).cycles = s.cycles ∧
    (((s.takeReleaseClaim).getD s)).partState = s.partState ∧
    (((s.takeReleaseClaim).getD s)).wasActive = s.wasActive ∧
    (((s.takeReleaseClaim).getD s)).fellToDefault = s.fellToDefault ∧
    (((s.takeReleaseClaim).getD s)).boot = s.boot ∧ (((s.takeReleaseClaim).getD s)).live = s.live ∧
    (((s.takeReleaseClaim).getD s)).setup = s.setup ∧ (((s.takeReleaseClaim).getD s)).statusEntry = s.statusEntry ∧
    (((s.takeReleaseClaim).getD s)).statusWritten = s.statusWritten ∧
    (((s.takeReleaseClaim).getD s)).commandEntry = s.commandEntry ∧
    (((s.takeReleaseClaim).getD s)).commandWritten = s.commandWritten ∧
    (((s.takeReleaseClaim).getD s)).head = s.head ∧ (((s.takeReleaseClaim).getD s)).tags = s.tags ∧
    (((s.takeReleaseClaim).getD s)).passQueue = s.passQueue ∧ (((s.takeReleaseClaim).getD s)).dreq = s.dreq ∧
    (((s.takeReleaseClaim).getD s)).sweepQueue = s.sweepQueue ∧
    (((s.takeReleaseClaim).getD s)).intervals = s.intervals ∧
    (((s.takeReleaseClaim).getD s)).intervalDue = s.intervalDue ∧
    (((s.takeReleaseClaim).getD s)).bindings = s.bindings ∧ (((s.takeReleaseClaim).getD s)).chord = s.chord ∧
    (((s.takeReleaseClaim).getD s)).levels = s.levels ∧ (((s.takeReleaseClaim).getD s)).inputs = s.inputs ∧
    (((s.takeReleaseClaim).getD s)).chordTimer = s.chordTimer ∧
    (((s.takeReleaseClaim).getD s)).chordFired = s.chordFired ∧
    (((s.takeReleaseClaim).getD s)).servicePos = s.servicePos ∧
    (((s.takeReleaseClaim).getD s)).eventClaim = s.eventClaim ∧
    (((s.takeReleaseClaim).getD s)).newCounts = s.newCounts ∧
    (((s.takeReleaseClaim).getD s)).logStyle = s.logStyle ∧ (((s.takeReleaseClaim).getD s)).logBase = s.logBase := by
  dsimp only [State.takeReleaseClaim]
  unfold Option.map
  (repeat' split) <;> simp

@[simp] theorem beginSweep_keeps :
    (((s.beginSweep).getD s)).pending = s.pending ∧ (((s.beginSweep).getD s)).bootStage = s.bootStage ∧
    (((s.beginSweep).getD s)).resetKind = s.resetKind ∧ (((s.beginSweep).getD s)).setupSel = s.setupSel ∧
    (((s.beginSweep).getD s)).evLevels = s.evLevels ∧ (((s.beginSweep).getD s)).ursp = s.ursp ∧
    (((s.beginSweep).getD s)).alert = s.alert ∧ (((s.beginSweep).getD s)).tick = s.tick ∧
    (((s.beginSweep).getD s)).cycles = s.cycles ∧ (((s.beginSweep).getD s)).partState = s.partState ∧
    (((s.beginSweep).getD s)).wasActive = s.wasActive ∧ (((s.beginSweep).getD s)).fellToDefault = s.fellToDefault ∧
    (((s.beginSweep).getD s)).boot = s.boot ∧ (((s.beginSweep).getD s)).live = s.live ∧
    (((s.beginSweep).getD s)).setup = s.setup ∧ (((s.beginSweep).getD s)).releaseClaim = s.releaseClaim ∧
    (((s.beginSweep).getD s)).flags = s.flags ∧ (((s.beginSweep).getD s)).statusEntry = s.statusEntry ∧
    (((s.beginSweep).getD s)).statusWritten = s.statusWritten ∧ (((s.beginSweep).getD s)).command = s.command ∧
    (((s.beginSweep).getD s)).commandEntry = s.commandEntry ∧
    (((s.beginSweep).getD s)).commandWritten = s.commandWritten ∧
    (((s.beginSweep).getD s)).outstanding = s.outstanding ∧ (((s.beginSweep).getD s)).head = s.head ∧
    (((s.beginSweep).getD s)).responses = s.responses ∧ (((s.beginSweep).getD s)).tags = s.tags ∧
    (((s.beginSweep).getD s)).passQueue = s.passQueue ∧ (((s.beginSweep).getD s)).dreq = s.dreq ∧
    (((s.beginSweep).getD s)).entries = s.entries ∧ (((s.beginSweep).getD s)).suspects = s.suspects ∧
    (((s.beginSweep).getD s)).intervals = s.intervals ∧ (((s.beginSweep).getD s)).intervalDue = s.intervalDue ∧
    (((s.beginSweep).getD s)).bindings = s.bindings ∧ (((s.beginSweep).getD s)).chord = s.chord ∧
    (((s.beginSweep).getD s)).levels = s.levels ∧ (((s.beginSweep).getD s)).inputs = s.inputs ∧
    (((s.beginSweep).getD s)).chordTimer = s.chordTimer ∧ (((s.beginSweep).getD s)).chordFired = s.chordFired ∧
    (((s.beginSweep).getD s)).servicePos = s.servicePos ∧ (((s.beginSweep).getD s)).eventClaim = s.eventClaim ∧
    (((s.beginSweep).getD s)).newCounts = s.newCounts ∧ (((s.beginSweep).getD s)).logStyle = s.logStyle ∧
    (((s.beginSweep).getD s)).logBase = s.logBase ∧ (((s.beginSweep).getD s)).logNext = s.logNext ∧
    (((s.beginSweep).getD s)).logHeld = s.logHeld ∧ (((s.beginSweep).getD s)).logQueue = s.logQueue := by
  dsimp only [State.beginSweep]
  unfold Option.map
  (repeat' split) <;> simp

@[simp] theorem closeHeader_keeps :
    (((s.closeHeader).getD s)).pending = s.pending ∧ (((s.closeHeader).getD s)).bootStage = s.bootStage ∧
    (((s.closeHeader).getD s)).resetKind = s.resetKind ∧ (((s.closeHeader).getD s)).setupSel = s.setupSel ∧
    (((s.closeHeader).getD s)).evLevels = s.evLevels ∧ (((s.closeHeader).getD s)).ursp = s.ursp ∧
    (((s.closeHeader).getD s)).alert = s.alert ∧ (((s.closeHeader).getD s)).tick = s.tick ∧
    (((s.closeHeader).getD s)).cycles = s.cycles ∧ (((s.closeHeader).getD s)).partState = s.partState ∧
    (((s.closeHeader).getD s)).wasActive = s.wasActive ∧
    (((s.closeHeader).getD s)).fellToDefault = s.fellToDefault ∧ (((s.closeHeader).getD s)).boot = s.boot ∧
    (((s.closeHeader).getD s)).live = s.live ∧ (((s.closeHeader).getD s)).setup = s.setup ∧
    (((s.closeHeader).getD s)).releaseClaim = s.releaseClaim ∧ (((s.closeHeader).getD s)).flags = s.flags ∧
    (((s.closeHeader).getD s)).statusEntry = s.statusEntry ∧
    (((s.closeHeader).getD s)).statusWritten = s.statusWritten ∧ (((s.closeHeader).getD s)).command = s.command ∧
    (((s.closeHeader).getD s)).commandEntry = s.commandEntry ∧
    (((s.closeHeader).getD s)).commandWritten = s.commandWritten ∧
    (((s.closeHeader).getD s)).outstanding = s.outstanding ∧ (((s.closeHeader).getD s)).head = s.head ∧
    (((s.closeHeader).getD s)).responses = s.responses ∧ (((s.closeHeader).getD s)).tags = s.tags ∧
    (((s.closeHeader).getD s)).passQueue = s.passQueue ∧ (((s.closeHeader).getD s)).dreq = s.dreq ∧
    (((s.closeHeader).getD s)).windows = s.windows ∧ (((s.closeHeader).getD s)).entries = s.entries ∧
    (((s.closeHeader).getD s)).suspects = s.suspects ∧ (((s.closeHeader).getD s)).sweepQueue = s.sweepQueue ∧
    (((s.closeHeader).getD s)).intervals = s.intervals ∧ (((s.closeHeader).getD s)).intervalDue = s.intervalDue ∧
    (((s.closeHeader).getD s)).bindings = s.bindings ∧ (((s.closeHeader).getD s)).chord = s.chord ∧
    (((s.closeHeader).getD s)).levels = s.levels ∧ (((s.closeHeader).getD s)).inputs = s.inputs ∧
    (((s.closeHeader).getD s)).chordTimer = s.chordTimer ∧ (((s.closeHeader).getD s)).chordFired = s.chordFired ∧
    (((s.closeHeader).getD s)).servicePos = s.servicePos ∧ (((s.closeHeader).getD s)).eventClaim = s.eventClaim ∧
    (((s.closeHeader).getD s)).newCounts = s.newCounts ∧ (((s.closeHeader).getD s)).logStyle = s.logStyle ∧
    (((s.closeHeader).getD s)).logBase = s.logBase ∧ (((s.closeHeader).getD s)).logNext = s.logNext ∧
    (((s.closeHeader).getD s)).logHeld = s.logHeld ∧ (((s.closeHeader).getD s)).logQueue = s.logQueue := by
  dsimp only [State.closeHeader]
  unfold Option.map
  (repeat' split) <;> simp

@[simp] theorem closeSweep_keeps :
    (((s.closeSweep).getD s)).pending = s.pending ∧ (((s.closeSweep).getD s)).bootStage = s.bootStage ∧
    (((s.closeSweep).getD s)).resetKind = s.resetKind ∧ (((s.closeSweep).getD s)).setupSel = s.setupSel ∧
    (((s.closeSweep).getD s)).evLevels = s.evLevels ∧ (((s.closeSweep).getD s)).ursp = s.ursp ∧
    (((s.closeSweep).getD s)).alert = s.alert ∧ (((s.closeSweep).getD s)).tick = s.tick ∧
    (((s.closeSweep).getD s)).cycles = s.cycles ∧ (((s.closeSweep).getD s)).partState = s.partState ∧
    (((s.closeSweep).getD s)).wasActive = s.wasActive ∧ (((s.closeSweep).getD s)).fellToDefault = s.fellToDefault ∧
    (((s.closeSweep).getD s)).boot = s.boot ∧ (((s.closeSweep).getD s)).live = s.live ∧
    (((s.closeSweep).getD s)).setup = s.setup ∧ (((s.closeSweep).getD s)).releaseClaim = s.releaseClaim ∧
    (((s.closeSweep).getD s)).statusEntry = s.statusEntry ∧
    (((s.closeSweep).getD s)).statusWritten = s.statusWritten ∧ (((s.closeSweep).getD s)).command = s.command ∧
    (((s.closeSweep).getD s)).commandEntry = s.commandEntry ∧
    (((s.closeSweep).getD s)).commandWritten = s.commandWritten ∧
    (((s.closeSweep).getD s)).outstanding = s.outstanding ∧ (((s.closeSweep).getD s)).head = s.head ∧
    (((s.closeSweep).getD s)).responses = s.responses ∧ (((s.closeSweep).getD s)).tags = s.tags ∧
    (((s.closeSweep).getD s)).passQueue = s.passQueue ∧ (((s.closeSweep).getD s)).dreq = s.dreq ∧
    (((s.closeSweep).getD s)).windows = s.windows ∧ (((s.closeSweep).getD s)).entries = s.entries ∧
    (((s.closeSweep).getD s)).suspects = s.suspects ∧ (((s.closeSweep).getD s)).sweepQueue = s.sweepQueue ∧
    (((s.closeSweep).getD s)).intervals = s.intervals ∧ (((s.closeSweep).getD s)).intervalDue = s.intervalDue ∧
    (((s.closeSweep).getD s)).bindings = s.bindings ∧ (((s.closeSweep).getD s)).chord = s.chord ∧
    (((s.closeSweep).getD s)).levels = s.levels ∧ (((s.closeSweep).getD s)).inputs = s.inputs ∧
    (((s.closeSweep).getD s)).chordTimer = s.chordTimer ∧ (((s.closeSweep).getD s)).chordFired = s.chordFired ∧
    (((s.closeSweep).getD s)).servicePos = s.servicePos ∧ (((s.closeSweep).getD s)).eventClaim = s.eventClaim ∧
    (((s.closeSweep).getD s)).newCounts = s.newCounts ∧ (((s.closeSweep).getD s)).logStyle = s.logStyle ∧
    (((s.closeSweep).getD s)).logBase = s.logBase ∧ (((s.closeSweep).getD s)).logNext = s.logNext ∧
    (((s.closeSweep).getD s)).logHeld = s.logHeld ∧ (((s.closeSweep).getD s)).logQueue = s.logQueue := by
  dsimp only [State.closeSweep]
  (repeat' split) <;> simp

@[simp] theorem abandonHeader_keeps :
    (((s.abandonHeader).getD s)).pending = s.pending ∧ (((s.abandonHeader).getD s)).bootStage = s.bootStage ∧
    (((s.abandonHeader).getD s)).resetKind = s.resetKind ∧ (((s.abandonHeader).getD s)).setupSel = s.setupSel ∧
    (((s.abandonHeader).getD s)).evLevels = s.evLevels ∧ (((s.abandonHeader).getD s)).ursp = s.ursp ∧
    (((s.abandonHeader).getD s)).alert = s.alert ∧ (((s.abandonHeader).getD s)).tick = s.tick ∧
    (((s.abandonHeader).getD s)).cycles = s.cycles ∧ (((s.abandonHeader).getD s)).partState = s.partState ∧
    (((s.abandonHeader).getD s)).wasActive = s.wasActive ∧
    (((s.abandonHeader).getD s)).fellToDefault = s.fellToDefault ∧ (((s.abandonHeader).getD s)).boot = s.boot ∧
    (((s.abandonHeader).getD s)).live = s.live ∧ (((s.abandonHeader).getD s)).setup = s.setup ∧
    (((s.abandonHeader).getD s)).releaseClaim = s.releaseClaim ∧ (((s.abandonHeader).getD s)).flags = s.flags ∧
    (((s.abandonHeader).getD s)).statusEntry = s.statusEntry ∧
    (((s.abandonHeader).getD s)).statusWritten = s.statusWritten ∧
    (((s.abandonHeader).getD s)).command = s.command ∧ (((s.abandonHeader).getD s)).commandEntry = s.commandEntry ∧
    (((s.abandonHeader).getD s)).commandWritten = s.commandWritten ∧
    (((s.abandonHeader).getD s)).outstanding = s.outstanding ∧ (((s.abandonHeader).getD s)).head = s.head ∧
    (((s.abandonHeader).getD s)).responses = s.responses ∧ (((s.abandonHeader).getD s)).tags = s.tags ∧
    (((s.abandonHeader).getD s)).passQueue = s.passQueue ∧ (((s.abandonHeader).getD s)).dreq = s.dreq ∧
    (((s.abandonHeader).getD s)).windows = s.windows ∧ (((s.abandonHeader).getD s)).entries = s.entries ∧
    (((s.abandonHeader).getD s)).suspects = s.suspects ∧ (((s.abandonHeader).getD s)).sweepQueue = s.sweepQueue ∧
    (((s.abandonHeader).getD s)).intervals = s.intervals ∧
    (((s.abandonHeader).getD s)).intervalDue = s.intervalDue ∧ (((s.abandonHeader).getD s)).bindings = s.bindings ∧
    (((s.abandonHeader).getD s)).chord = s.chord ∧ (((s.abandonHeader).getD s)).levels = s.levels ∧
    (((s.abandonHeader).getD s)).inputs = s.inputs ∧ (((s.abandonHeader).getD s)).chordTimer = s.chordTimer ∧
    (((s.abandonHeader).getD s)).chordFired = s.chordFired ∧
    (((s.abandonHeader).getD s)).servicePos = s.servicePos ∧
    (((s.abandonHeader).getD s)).eventClaim = s.eventClaim ∧ (((s.abandonHeader).getD s)).newCounts = s.newCounts ∧
    (((s.abandonHeader).getD s)).logStyle = s.logStyle ∧ (((s.abandonHeader).getD s)).logBase = s.logBase ∧
    (((s.abandonHeader).getD s)).logNext = s.logNext ∧ (((s.abandonHeader).getD s)).logHeld = s.logHeld ∧
    (((s.abandonHeader).getD s)).logQueue = s.logQueue := by
  dsimp only [State.abandonHeader]
  unfold Option.map
  (repeat' split) <;> simp

@[simp] theorem reportAbandoned_keeps (sw : Sweep) :
    (s.reportAbandoned sw).pending = s.pending ∧ (s.reportAbandoned sw).bootStage = s.bootStage ∧
    (s.reportAbandoned sw).resetKind = s.resetKind ∧ (s.reportAbandoned sw).setupSel = s.setupSel ∧
    (s.reportAbandoned sw).evLevels = s.evLevels ∧ (s.reportAbandoned sw).ursp = s.ursp ∧
    (s.reportAbandoned sw).alert = s.alert ∧ (s.reportAbandoned sw).tick = s.tick ∧
    (s.reportAbandoned sw).cycles = s.cycles ∧ (s.reportAbandoned sw).partState = s.partState ∧
    (s.reportAbandoned sw).wasActive = s.wasActive ∧ (s.reportAbandoned sw).fellToDefault = s.fellToDefault ∧
    (s.reportAbandoned sw).boot = s.boot ∧ (s.reportAbandoned sw).live = s.live ∧
    (s.reportAbandoned sw).setup = s.setup ∧ (s.reportAbandoned sw).releaseClaim = s.releaseClaim ∧
    (s.reportAbandoned sw).statusEntry = s.statusEntry ∧ (s.reportAbandoned sw).statusWritten = s.statusWritten ∧
    (s.reportAbandoned sw).command = s.command ∧ (s.reportAbandoned sw).commandEntry = s.commandEntry ∧
    (s.reportAbandoned sw).commandWritten = s.commandWritten ∧ (s.reportAbandoned sw).outstanding = s.outstanding ∧
    (s.reportAbandoned sw).head = s.head ∧ (s.reportAbandoned sw).responses = s.responses ∧
    (s.reportAbandoned sw).tags = s.tags ∧ (s.reportAbandoned sw).passQueue = s.passQueue ∧
    (s.reportAbandoned sw).dreq = s.dreq ∧ (s.reportAbandoned sw).windows = s.windows ∧
    (s.reportAbandoned sw).entries = s.entries ∧ (s.reportAbandoned sw).suspects = s.suspects ∧
    (s.reportAbandoned sw).sweepQueue = s.sweepQueue ∧ (s.reportAbandoned sw).engine = s.engine ∧
    (s.reportAbandoned sw).intervals = s.intervals ∧ (s.reportAbandoned sw).intervalDue = s.intervalDue ∧
    (s.reportAbandoned sw).bindings = s.bindings ∧ (s.reportAbandoned sw).chord = s.chord ∧
    (s.reportAbandoned sw).levels = s.levels ∧ (s.reportAbandoned sw).inputs = s.inputs ∧
    (s.reportAbandoned sw).chordTimer = s.chordTimer ∧ (s.reportAbandoned sw).chordFired = s.chordFired ∧
    (s.reportAbandoned sw).servicePos = s.servicePos ∧ (s.reportAbandoned sw).eventClaim = s.eventClaim ∧
    (s.reportAbandoned sw).newCounts = s.newCounts ∧ (s.reportAbandoned sw).logStyle = s.logStyle ∧
    (s.reportAbandoned sw).logBase = s.logBase := by
  simp [State.reportAbandoned]

@[simp] theorem endAbandoned_keeps :
    (((s.endAbandoned).getD s)).pending = s.pending ∧ (((s.endAbandoned).getD s)).bootStage = s.bootStage ∧
    (((s.endAbandoned).getD s)).resetKind = s.resetKind ∧ (((s.endAbandoned).getD s)).setupSel = s.setupSel ∧
    (((s.endAbandoned).getD s)).evLevels = s.evLevels ∧ (((s.endAbandoned).getD s)).ursp = s.ursp ∧
    (((s.endAbandoned).getD s)).alert = s.alert ∧ (((s.endAbandoned).getD s)).tick = s.tick ∧
    (((s.endAbandoned).getD s)).cycles = s.cycles ∧ (((s.endAbandoned).getD s)).partState = s.partState ∧
    (((s.endAbandoned).getD s)).wasActive = s.wasActive ∧
    (((s.endAbandoned).getD s)).fellToDefault = s.fellToDefault ∧ (((s.endAbandoned).getD s)).boot = s.boot ∧
    (((s.endAbandoned).getD s)).live = s.live ∧ (((s.endAbandoned).getD s)).setup = s.setup ∧
    (((s.endAbandoned).getD s)).releaseClaim = s.releaseClaim ∧
    (((s.endAbandoned).getD s)).statusEntry = s.statusEntry ∧
    (((s.endAbandoned).getD s)).statusWritten = s.statusWritten ∧ (((s.endAbandoned).getD s)).command = s.command ∧
    (((s.endAbandoned).getD s)).commandEntry = s.commandEntry ∧
    (((s.endAbandoned).getD s)).commandWritten = s.commandWritten ∧
    (((s.endAbandoned).getD s)).outstanding = s.outstanding ∧ (((s.endAbandoned).getD s)).head = s.head ∧
    (((s.endAbandoned).getD s)).responses = s.responses ∧ (((s.endAbandoned).getD s)).tags = s.tags ∧
    (((s.endAbandoned).getD s)).passQueue = s.passQueue ∧ (((s.endAbandoned).getD s)).dreq = s.dreq ∧
    (((s.endAbandoned).getD s)).windows = s.windows ∧ (((s.endAbandoned).getD s)).entries = s.entries ∧
    (((s.endAbandoned).getD s)).suspects = s.suspects ∧ (((s.endAbandoned).getD s)).sweepQueue = s.sweepQueue ∧
    (((s.endAbandoned).getD s)).intervals = s.intervals ∧ (((s.endAbandoned).getD s)).intervalDue = s.intervalDue ∧
    (((s.endAbandoned).getD s)).bindings = s.bindings ∧ (((s.endAbandoned).getD s)).chord = s.chord ∧
    (((s.endAbandoned).getD s)).levels = s.levels ∧ (((s.endAbandoned).getD s)).inputs = s.inputs ∧
    (((s.endAbandoned).getD s)).chordTimer = s.chordTimer ∧ (((s.endAbandoned).getD s)).chordFired = s.chordFired ∧
    (((s.endAbandoned).getD s)).servicePos = s.servicePos ∧ (((s.endAbandoned).getD s)).eventClaim = s.eventClaim ∧
    (((s.endAbandoned).getD s)).newCounts = s.newCounts ∧ (((s.endAbandoned).getD s)).logStyle = s.logStyle ∧
    (((s.endAbandoned).getD s)).logBase = s.logBase := by
  dsimp only [State.endAbandoned]
  (repeat' split) <;> simp

@[simp] theorem arrive_keeps (q : UpRequest) :
    (((s.arrive q).getD s)).pending = s.pending ∧ (((s.arrive q).getD s)).bootStage = s.bootStage ∧
    (((s.arrive q).getD s)).resetKind = s.resetKind ∧ (((s.arrive q).getD s)).setupSel = s.setupSel ∧
    (((s.arrive q).getD s)).evLevels = s.evLevels ∧ (((s.arrive q).getD s)).ursp = s.ursp ∧
    (((s.arrive q).getD s)).alert = s.alert ∧ (((s.arrive q).getD s)).tick = s.tick ∧
    (((s.arrive q).getD s)).cycles = s.cycles ∧ (((s.arrive q).getD s)).wasActive = s.wasActive ∧
    (((s.arrive q).getD s)).statusEntry = s.statusEntry ∧ (((s.arrive q).getD s)).statusWritten = s.statusWritten ∧
    (((s.arrive q).getD s)).commandEntry = s.commandEntry ∧
    (((s.arrive q).getD s)).commandWritten = s.commandWritten ∧ (((s.arrive q).getD s)).tags = s.tags ∧
    (((s.arrive q).getD s)).dreq = s.dreq ∧ (((s.arrive q).getD s)).suspects = s.suspects ∧
    (((s.arrive q).getD s)).bindings = s.bindings ∧ (((s.arrive q).getD s)).chord = s.chord ∧
    (((s.arrive q).getD s)).logStyle = s.logStyle ∧ (((s.arrive q).getD s)).logBase = s.logBase := by
  dsimp only [State.arrive]
  (repeat' split) <;> simp

end Sys2Proof.Machine
end

