-- ==== Sys2Proof/Laws/Effects.lean ====
section
/-!
SUPPORT. What the shared operations do to the flags and to the log queue, and what a command answers.
-/

namespace Sys2Proof.Machine

variable (s : State)

/-! ### Flags -/

theorem PartFlag.bit_lt (f : PartFlag) : f.bit < 13 := by cases f <;> decide

@[simp] theorem PartFlag.mask_getLsbD (f : PartFlag) (j : Nat) : f.mask.getLsbD j = decide (j = f.bit) := by
  have h := f.bit_lt
  simp only [PartFlag.mask, BitVec.getLsbD_shiftLeft, BitVec.getLsbD_one]
  by_cases hj : j = f.bit
  · simp [hj, h]
  · have : ¬(¬j < f.bit ∧ j - f.bit = 0) := by omega
    simp only [hj, decide_false]
    simp only [Bool.and_eq_false_imp]
    intro a
    simp_all

@[simp] theorem setPartFlag_flags (f : PartFlag) :
    (s.setPartFlag f).flags = { s.flags with part := s.flags.part ||| f.mask } := rfl

/-- A report clears no part flag. -/
theorem report_part (k : IncidentKind) (w : Option WindowNo) (a : ByteAddr) (d : BitVec 32) (j : Nat)
    (h : s.flags.part.getLsbD j) : (s.report k w a d).flags.part.getLsbD j := by
  unfold State.report State.logIncident State.takeIncident State.keepIncident
  (repeat' split) <;> simp [h]

/-- A setting that falls to its default clears no part flag. -/
theorem setupInvalid_part (w : Option WindowNo) (a : ByteAddr) (d : BitVec 32) (j : Nat)
    (h : s.flags.part.getLsbD j) : (s.setupInvalid w a d).flags.part.getLsbD j := by
  unfold State.setupInvalid
  exact report_part _ _ _ _ _ _ (by simp [h])

/-- A setting that falls to its default sets SETUP_FAULT. -/
theorem setupInvalid_sets (w : Option WindowNo) (a : ByteAddr) (d : BitVec 32) :
    (s.setupInvalid w a d).flags.part.getLsbD 0 := by
  unfold State.setupInvalid
  exact report_part _ _ _ _ _ _ (by simp [PartFlag.bit])

/-! ### A report beside other updates

A report reads and writes the flags and the log unit's fields only, so it commutes with an update of any other field. -/

theorem report_with_tags (k : IncidentKind) (w : Option WindowNo) (a : ByteAddr) (d : BitVec 32)
    (x : Vector TagState 32) :
    ({ s with tags := x } : State).report k w a d = { s.report k w a d with tags := x } := by
  simp only [State.report, State.logIncident, State.takeIncident, State.keepIncident, State.setPartFlag]
  (repeat' split) <;> rfl

theorem report_with_responses (k : IncidentKind) (w : Option WindowNo) (a : ByteAddr) (d : BitVec 32)
    (x : List UpResponse) :
    ({ s with responses := x } : State).report k w a d = { s.report k w a d with responses := x } := by
  simp only [State.report, State.logIncident, State.takeIncident, State.keepIncident, State.setPartFlag]
  (repeat' split) <;> rfl

theorem report_with_outstanding (k : IncidentKind) (w : Option WindowNo) (a : ByteAddr) (d : BitVec 32)
    (x : List UpTag) :
    ({ s with outstanding := x } : State).report k w a d = { s.report k w a d with outstanding := x } := by
  simp only [State.report, State.logIncident, State.takeIncident, State.keepIncident, State.setPartFlag]
  (repeat' split) <;> rfl

theorem report_with_head (k : IncidentKind) (w : Option WindowNo) (a : ByteAddr) (d : BitVec 32)
    (x : Option UpRequest) :
    ({ s with head := x } : State).report k w a d = { s.report k w a d with head := x } := by
  simp only [State.report, State.logIncident, State.takeIncident, State.keepIncident, State.setPartFlag]
  (repeat' split) <;> rfl

theorem report_with_entries (k : IncidentKind) (w : Option WindowNo) (a : ByteAddr) (d : BitVec 32)
    (x : Vector Entry 12) :
    ({ s with entries := x } : State).report k w a d = { s.report k w a d with entries := x } := by
  simp only [State.report, State.logIncident, State.takeIncident, State.keepIncident, State.setPartFlag]
  (repeat' split) <;> rfl

theorem report_with_engine (k : IncidentKind) (w : Option WindowNo) (a : ByteAddr) (d : BitVec 32)
    (x : Option Sweep) :
    ({ s with engine := x } : State).report k w a d = { s.report k w a d with engine := x } := by
  simp only [State.report, State.logIncident, State.takeIncident, State.keepIncident, State.setPartFlag]
  (repeat' split) <;> rfl

theorem report_with_command (k : IncidentKind) (w : Option WindowNo) (a : ByteAddr) (d : BitVec 32)
    (x : CommandLine) :
    ({ s with command := x } : State).report k w a d = { s.report k w a d with command := x } := by
  simp only [State.report, State.logIncident, State.takeIncident, State.keepIncident, State.setPartFlag]
  (repeat' split) <;> rfl

theorem report_with_suspects (k : IncidentKind) (w : Option WindowNo) (a : ByteAddr) (d : BitVec 32)
    (x : List LineAddr) :
    ({ s with suspects := x } : State).report k w a d = { s.report k w a d with suspects := x } := by
  simp only [State.report, State.logIncident, State.takeIncident, State.keepIncident, State.setPartFlag]
  (repeat' split) <;> rfl

theorem report_with_inputs (k : IncidentKind) (w : Option WindowNo) (a : ByteAddr) (d : BitVec 32)
    (x : Vector InputState 4) :
    ({ s with inputs := x } : State).report k w a d = { s.report k w a d with inputs := x } := by
  simp only [State.report, State.logIncident, State.takeIncident, State.keepIncident, State.setPartFlag]
  (repeat' split) <;> rfl

/-! ### Answers -/

@[simp] theorem finish_none : finish s none = .next s := rfl

@[simp] theorem finish_some (t : State) : finish s (some t) = .next (s.commit t) := rfl

/-- Every answer is a next state: the step's end after its effect, or the state as it was. -/
theorem finish_eq (o : Option State) : finish s o = .next ((o.map s.commit).getD s) := by cases o <;> rfl

end Sys2Proof.Machine
end

