-- ==== Sys2Proof/Laws/Records.lean ====
section
/-!
SUPPORT. The window records stand through every operation but the building and the emptying of the Window Table (R43).
-/

namespace Sys2Proof.Machine

variable (s : State)

/-- A record is read off the table. -/
theorem record_congr {s t : State} (h : t.windows = s.windows) (v : WindowNo) : t.record v = s.record v := by
  simp only [State.record, h]

@[simp] theorem setPartFlag_record (f : PartFlag) (wn : WindowNo) :
    (s.setPartFlag f).record wn = s.record wn :=
  record_congr (by simp) wn

@[simp] theorem setWindowFlag_record (w : WindowNo) (wn : WindowNo) :
    (s.setWindowFlag w).record wn = s.record wn :=
  record_congr (by simp) wn

@[simp] theorem setSweepDone_record (w : WindowNo) (wn : WindowNo) :
    (s.setSweepDone w).record wn = s.record wn :=
  record_congr (by simp) wn

@[simp] theorem clearFlags_record (wn : WindowNo) :
    (s.clearFlags).record wn = s.record wn :=
  record_congr (by simp) wn

@[simp] theorem respond_record (tag : UpTag) (r : Result) (d : Option Line) (wn : WindowNo) :
    (s.respond tag r d).record wn = s.record wn :=
  record_congr (by simp) wn

@[simp] theorem answer_record (tag : UpTag) (r : Result) (d : Option Line) (wn : WindowNo) :
    (s.answer tag r d).record wn = s.record wn :=
  record_congr (by simp) wn

@[simp] theorem addOutstanding_record (tag : UpTag) (wn : WindowNo) :
    (s.addOutstanding tag).record wn = s.record wn :=
  record_congr (by simp) wn

@[simp] theorem leave_record (wn : WindowNo) :
    (s.leave).record wn = s.record wn :=
  record_congr (by simp) wn

@[simp] theorem answerHead_record (q : UpRequest) (r : Result) (d : Option Line) (wn : WindowNo) :
    (s.answerHead q r d).record wn = s.record wn :=
  record_congr (by simp) wn

@[simp] theorem acceptPass_record (q : UpRequest) (wn : WindowNo) :
    (s.acceptPass q).record wn = s.record wn :=
  record_congr (by simp) wn

@[simp] theorem setEntry_record (i : Fin 12) (e : Entry) (wn : WindowNo) :
    (s.setEntry i e).record wn = s.record wn :=
  record_congr (by simp) wn

@[simp] theorem delist_record (l : LineAddr) (wn : WindowNo) :
    (s.delist l).record wn = s.record wn :=
  record_congr (by simp) wn

@[simp] theorem setTag_record (t : DownTag) (x : TagState) (wn : WindowNo) :
    (s.setTag t x).record wn = s.record wn :=
  record_congr (by simp) wn

@[simp] theorem issue_record (t : DownTag) (o : Origin) (l : LineAddr) (b : ReqBody) (wn : WindowNo) :
    (s.issue t o l b).record wn = s.record wn :=
  record_congr (by simp) wn

@[simp] theorem completeCommand_record (r : CommandResult) (wn : WindowNo) :
    (s.completeCommand r).record wn = s.record wn :=
  record_congr (by simp) wn

@[simp] theorem setInput_record (n : InputNo) (i : InputState) (wn : WindowNo) :
    (s.setInput n i).record wn = s.record wn :=
  record_congr (by simp) wn

@[simp] theorem eventServed_record (n : InputNo) (wn : WindowNo) :
    (s.eventServed n).record wn = s.record wn :=
  record_congr (by simp) wn

@[simp] theorem resetInputs_record (wn : WindowNo) :
    (s.resetInputs).record wn = s.record wn :=
  record_congr (by simp) wn

@[simp] theorem armingSample_record (v : BitVec 4) (wn : WindowNo) :
    (s.armingSample v).record wn = s.record wn :=
  record_congr (by simp) wn

@[simp] theorem abandonSweeps_record (wn : WindowNo) :
    (s.abandonSweeps).record wn = s.record wn :=
  record_congr (by simp) wn

@[simp] theorem startSweep_record (q : SweepRequest) (rest : List SweepRequest) (r : WindowRecord) (wn : WindowNo) :
    (s.startSweep q rest r).record wn = s.record wn := by
  simp only [State.record, State.startSweep, Fin.getElem_fin, Vector.getElem_set]
  split
  · rename_i h; cases Fin.ext h; rfl
  · rfl

@[simp] theorem produceEnding_record (sw : Sweep) (r : WindowRecord) (h : HeaderState) (wn : WindowNo) :
    (s.produceEnding sw r h).record wn = s.record wn :=
  record_congr (by simp) wn

@[simp] theorem restartInterval_record (w : WindowNo) (wn : WindowNo) :
    (s.restartInterval w).record wn = s.record wn :=
  record_congr (by simp) wn

@[simp] theorem countIntervals_record (wn : WindowNo) :
    (s.countIntervals).record wn = s.record wn :=
  record_congr (by simp) wn

@[simp] theorem loadCounters_record (wn : WindowNo) :
    (s.loadCounters).record wn = s.record wn :=
  record_congr (by simp) wn

@[simp] theorem compareTags_record (wn : WindowNo) :
    (s.compareTags).record wn = s.record wn :=
  record_congr (by simp) wn

@[simp] theorem countTick_record (wn : WindowNo) :
    (s.countTick).record wn = s.record wn :=
  record_congr (by simp) wn

@[simp] theorem rearmAll_record (wn : WindowNo) :
    (s.rearmAll).record wn = s.record wn := by
  simp only [State.record, State.rearmAll, Fin.getElem_fin, Vector.getElem_ofFn]
  split <;> rfl

@[simp] theorem beginBoot_record (sel : BitVec 3) (wn : WindowNo) :
    (s.beginBoot sel).record wn = s.record wn :=
  record_congr (by simp) wn

@[simp] theorem withPending_record (q : List Instr) (wn : WindowNo) :
    (s.withPending q).record wn = s.record wn :=
  record_congr (by simp) wn

@[simp] theorem commit_record (t : State) (wn : WindowNo) :
    (s.commit t).record wn = t.record wn :=
  record_congr (by simp) wn

@[simp] theorem setPartFlagIf_record (b : Bool) (f : PartFlag) (wn : WindowNo) :
    (s.setPartFlagIf b f).record wn = s.record wn :=
  record_congr (by simp) wn

@[simp] theorem keepIncident_record (i : Incident) (wn : WindowNo) :
    (s.keepIncident i).record wn = s.record wn :=
  record_congr (by simp) wn

@[simp] theorem takeIncident_record (i : Incident) (wn : WindowNo) :
    (s.takeIncident i).record wn = s.record wn :=
  record_congr (by simp) wn

@[simp] theorem logIncident_record (i : Incident) (wn : WindowNo) :
    (s.logIncident i).record wn = s.record wn :=
  record_congr (by simp) wn

@[simp] theorem report_record (k : IncidentKind) (w : Option WindowNo) (a : ByteAddr) (d : BitVec 32) (wn : WindowNo) :
    (s.report k w a d).record wn = s.record wn :=
  record_congr (by simp) wn

@[simp] theorem enter_record (p : PartState) (wn : WindowNo) :
    (s.enter p).record wn = s.record wn :=
  record_congr (by simp) wn

@[simp] theorem setupInvalid_record (w : Option WindowNo) (a : ByteAddr) (d : BitVec 32) (wn : WindowNo) :
    (s.setupInvalid w a d).record wn = s.record wn :=
  record_congr (by simp) wn

@[simp] theorem countCrossing_record (w : WindowNo) (l : LineAddr) (v : Watched) (wn : WindowNo) :
    (s.countCrossing w l v).record wn = s.record wn :=
  record_congr (by simp) wn

@[simp] theorem testCrossing_record (w : WindowNo) (r : WindowRecord) (l : LineAddr) (v : Watched) (wn : WindowNo) :
    (s.testCrossing w r l v).record wn = s.record wn := by
  dsimp only [State.testCrossing]
  (repeat' split) <;> simp only [countCrossing_record] <;>
    simp only [State.record, State.setWindow, Fin.getElem_fin, Vector.getElem_set]
  split
  · rename_i h; cases Fin.ext h; rfl
  · rfl

@[simp] theorem testCrossings_record (w : WindowNo) (r : WindowRecord) (l : LineAddr) (vs : List Watched) (wn : WindowNo) :
    (s.testCrossings w r l vs).record wn = s.record wn := by
  unfold State.testCrossings
  induction vs generalizing s with
  | nil => simp
  | cons x xs ih => simp [ih]

@[simp] theorem handSweep_record (q : SweepRequest) (wn : WindowNo) :
    (s.handSweep q).record wn = s.record wn :=
  record_congr (by simp) wn

@[simp] theorem handSweeps_record (qs : List SweepRequest) (wn : WindowNo) :
    (s.handSweeps qs).record wn = s.record wn :=
  record_congr (by simp) wn

@[simp] theorem advanceSweep_record (sw : Sweep) (r : WindowRecord) (wn : WindowNo) :
    (s.advanceSweep sw r).record wn = s.record wn :=
  record_congr (by simp) wn

@[simp] theorem resolveItem_record (n : Nat) (x : Resolution) (wn : WindowNo) :
    (s.resolveItem n x).record wn = s.record wn :=
  record_congr (by simp) wn

@[simp] theorem shadowAnswered_record (t : DownTag) (g : ShadowTarget) (ok : Bool) (wn : WindowNo) :
    (s.shadowAnswered t g ok).record wn = s.record wn :=
  record_congr (by simp) wn

@[simp] theorem applyUpdate_record (h : Hold) (r : WindowRecord) (o : UpdateOrigin) (d : Line) (e : BitVec 8) (c : Line) (wn : WindowNo) :
    ((s.applyUpdate h r o d e c).2).record wn = s.record wn := by
  dsimp only [State.applyUpdate]
  (repeat' split) <;> simp

@[simp] theorem applyRead_record (r : WindowRecord) (t : UpTag) (c : Line) (wn : WindowNo) :
    ((s.applyRead r t c).2).record wn = s.record wn :=
  record_congr (by simp) wn

@[simp] theorem applySweep_record (r : WindowRecord) (a : SweepAction) (n : Nat) (c : Line) (wn : WindowNo) :
    ((s.applySweep r a n c).2).record wn = s.record wn :=
  record_congr (by simp) wn

@[simp] theorem applyItem_record (h : Hold) (i : Item) (c : Line) (wn : WindowNo) :
    ((s.applyItem h i c).2).record wn = s.record wn := by
  dsimp only [State.applyItem]
  (repeat' split) <;> simp

@[simp] theorem applyItems_record (h : Hold) (is : List Item) (c : Line) (wn : WindowNo) :
    ((s.applyItems h is c).2).record wn = s.record wn := by
  unfold State.applyItems
  induction is generalizing s c with
  | nil => simp
  | cons x xs ih => simpa using ih (s.applyItem h x c).2 (s.applyItem h x c).1

@[simp] theorem applyAt_record (i : Fin 12) (x : Item) (wn : WindowNo) :
    (s.applyAt i x).record wn = s.record wn := by
  dsimp only [State.applyAt]
  (repeat' split) <;> simp

@[simp] theorem joinQueue_record (i : Fin 12) (x : Item) (wn : WindowNo) :
    (s.joinQueue i x).record wn = s.record wn :=
  record_congr (by simp) wn

@[simp] theorem openFetch_record (i : Fin 12) (h : Hold) (x : Item) (wn : WindowNo) :
    (s.openFetch i h x).record wn = s.record wn :=
  record_congr (by simp) wn

@[simp] theorem openCleared_record (i : Fin 12) (h : Hold) (r : WindowRecord) (x : Item) (m : Bool) (wn : WindowNo) :
    (s.openCleared i h r x m).record wn = s.record wn := by
  simp [State.openCleared]

@[simp] theorem accept_record (h : Hold) (x : Item) (wn : WindowNo) :
    (s.accept h x).record wn = s.record wn := by
  dsimp only [State.accept]
  (repeat' split) <;> simp

@[simp] theorem fetchComplete_record (i : Fin 12) (h : Hold) (q : List Item) (r : WindowRecord) (d : Line) (wn : WindowNo) :
    (s.fetchComplete i h q r d).record wn = s.record wn := by
  dsimp only [State.fetchComplete]
  (repeat' split) <;> simp

@[simp] theorem disposeItem_record (x : Item) (wn : WindowNo) :
    (s.disposeItem x).record wn = s.record wn :=
  record_congr (by simp) wn

@[simp] theorem foldl_disposeItem_record (q : List Item) (wn : WindowNo) :
    (q.foldl State.disposeItem s).record wn = s.record wn :=
  record_congr (by simp) wn

@[simp] theorem listSuspect_record (h : Hold) (wn : WindowNo) :
    (s.listSuspect h).record wn = s.record wn :=
  record_congr (by simp) wn

@[simp] theorem fetchFault_record (i : Fin 12) (h : Hold) (q : List Item) (c : Cause) (wn : WindowNo) :
    (s.fetchFault i h q c).record wn = s.record wn :=
  record_congr (by simp) wn

@[simp] theorem fetchEnded_record (i : Fin 12) (o : Outcome) (wn : WindowNo) :
    (s.fetchEnded i o).record wn = s.record wn := by
  dsimp only [State.fetchEnded]
  (repeat' split) <;> simp

@[simp] theorem writebackFault_record (w : Option WindowNo) (l : LineAddr) (c : Cause) (wn : WindowNo) :
    (s.writebackFault w l c).record wn = s.record wn :=
  record_congr (by simp) wn

@[simp] theorem releaseOutcome_record (m ok : Bool) (wn : WindowNo) :
    (s.releaseOutcome m ok).record wn = s.record wn :=
  record_congr (by simp) wn

@[simp] theorem writebackEnded_record (i : Fin 12) (o : Outcome) (wn : WindowNo) :
    (s.writebackEnded i o).record wn = s.record wn :=
  record_congr (by simp) wn

@[simp] theorem statusWritebackEnded_record (o : Outcome) (wn : WindowNo) :
    (s.statusWritebackEnded o).record wn = s.record wn :=
  record_congr (by simp) wn

@[simp] theorem commandWritebackEnded_record (o : Outcome) (wn : WindowNo) :
    (s.commandWritebackEnded o).record wn = s.record wn :=
  record_congr (by simp) wn

@[simp] theorem grant_record (t : DownTag) (w : Waiter) (wn : WindowNo) :
    (s.grant t w).record wn = s.record wn :=
  record_congr (by simp) wn

@[simp] theorem reportOutcome_record (w : Option WindowNo) (r : TagRecord) (o : Outcome) (wn : WindowNo) :
    (s.reportOutcome w r o).record wn = s.record wn :=
  record_congr (by simp) wn

@[simp] theorem logWriteEnded_record (o : Outcome) (wn : WindowNo) :
    (s.logWriteEnded o).record wn = s.record wn :=
  record_congr (by simp) wn

@[simp] theorem passAnswer_record (t : UpTag) (b : Bool) (o : Outcome) (wn : WindowNo) :
    (s.passAnswer t b o).record wn = s.record wn :=
  record_congr (by simp) wn

@[simp] theorem deliver_record (t : DownTag) (r : TagRecord) (o : Outcome) (wn : WindowNo) :
    (s.deliver t r o).record wn = s.record wn := by
  dsimp only [State.deliver]
  (repeat' split) <;> first | (simp; done) | (simp; rfl)

@[simp] theorem makeClaim_record (wn : WindowNo) :
    (s.makeClaim).record wn = s.record wn :=
  record_congr (by simp) wn

@[simp] theorem countEdge_record (n : InputNo) (b : Binding) (wn : WindowNo) :
    (s.countEdge n b).record wn = s.record wn :=
  record_congr (by simp) wn

@[simp] theorem chordAfterChange_record (x y : BitVec 4) (wn : WindowNo) :
    (s.chordAfterChange x y).record wn = s.record wn :=
  record_congr (by simp) wn

@[simp] theorem acceptChange_record (n : InputNo) (v : BitVec 4) (wn : WindowNo) :
    (s.acceptChange n v).record wn = s.record wn :=
  record_congr (by simp) wn

@[simp] theorem enterStuck_record (n : InputNo) (b : Binding) (wn : WindowNo) :
    (s.enterStuck n b).record wn = s.record wn :=
  record_congr (by simp) wn

@[simp] theorem fireChord_record (wn : WindowNo) :
    (s.fireChord).record wn = s.record wn :=
  record_congr (by simp) wn

@[simp] theorem sample_record (v : BitVec 4) (wn : WindowNo) :
    (s.sample v).record wn = s.record wn :=
  record_congr (by simp) wn

@[simp] theorem eventDiscarded_record (n : InputNo) (b : Binding) (wn : WindowNo) :
    (s.eventDiscarded n b).record wn = s.record wn :=
  record_congr (by simp) wn

@[simp] theorem acceptSweepItem_record (sw : Sweep) (r : WindowRecord) (wn : WindowNo) :
    (s.acceptSweepItem sw r).record wn = s.record wn := by
  dsimp only [State.acceptSweepItem]
  (repeat' split) <;> first | (simp; done) | (simp; rfl)

@[simp] theorem expireInterval_record (w : WindowNo) (wn : WindowNo) :
    (s.expireInterval w).record wn = s.record wn :=
  record_congr (by simp) wn

@[simp] theorem applyBootLine_record (x : SetupSlot) (wn : WindowNo) :
    (s.applyBootLine x).record wn = s.record wn :=
  record_congr (by simp) wn

@[simp] theorem applyLogLine_record (x : SetupSlot) (wn : WindowNo) :
    (s.applyLogLine x).record wn = s.record wn :=
  record_congr (by simp) wn

@[simp] theorem applyBootSettings_record (wn : WindowNo) :
    (s.applyBootSettings).record wn = s.record wn :=
  record_congr (by simp) wn

@[simp] theorem startStatus_record (wn : WindowNo) :
    (s.startStatus).record wn = s.record wn :=
  record_congr (by simp) wn

@[simp] theorem foldl_takeIncident_record (is : List Incident) (wn : WindowNo) :
    (is.foldl State.takeIncident s).record wn = s.record wn :=
  record_congr (by simp) wn

@[simp] theorem formPinned_record (wn : WindowNo) :
    (s.formPinned).record wn = s.record wn :=
  record_congr (by simp) wn

@[simp] theorem enterLoading_record (wn : WindowNo) :
    (s.enterLoading).record wn = s.record wn :=
  record_congr (by simp) wn

@[simp] theorem judgeMasks_record (wn : WindowNo) :
    (s.judgeMasks).record wn = s.record wn :=
  record_congr (by simp) wn

@[simp] theorem judgeInterval_record (w : WindowNo) (wn : WindowNo) :
    (s.judgeInterval w).record wn = s.record wn :=
  record_congr (by simp) wn

@[simp] theorem foldl_judgeInterval_record (ws : List WindowNo) (wn : WindowNo) :
    (ws.foldl State.judgeInterval s).record wn = s.record wn :=
  record_congr (by simp) wn

@[simp] theorem judgeIntervals_record (wn : WindowNo) :
    (s.judgeIntervals).record wn = s.record wn :=
  record_congr (by simp) wn

@[simp] theorem disableWindow_record (w : WindowNo) (c : BitVec 32) (wn : WindowNo) :
    (s.disableWindow w c).record wn = s.record wn :=
  record_congr (by simp) wn

@[simp] theorem disableBinding_record (n : InputNo) (c : BitVec 32) (wn : WindowNo) :
    (s.disableBinding n c).record wn = s.record wn :=
  record_congr (by simp) wn

@[simp] theorem judgeBinding_record (n : InputNo) (wn : WindowNo) :
    (s.judgeBinding n).record wn = s.record wn :=
  record_congr (by simp) wn

@[simp] theorem foldl_judgeBinding_record (ns : List InputNo) (wn : WindowNo) :
    (ns.foldl State.judgeBinding s).record wn = s.record wn :=
  record_congr (by simp) wn

@[simp] theorem judgeBindings_record (wn : WindowNo) :
    (s.judgeBindings).record wn = s.record wn :=
  record_congr (by simp) wn

@[simp] theorem judgeChord_record (wn : WindowNo) :
    (s.judgeChord).record wn = s.record wn :=
  record_congr (by simp) wn

@[simp] theorem writeArmingResult_record (wn : WindowNo) :
    (s.writeArmingResult).record wn = s.record wn :=
  record_congr (by simp) wn

@[simp] theorem runArm_record (wn : WindowNo) :
    (s.runArm).record wn = s.record wn :=
  record_congr (by simp) wn

@[simp] theorem runDisarm_record (wn : WindowNo) :
    (s.runDisarm).record wn = s.record wn :=
  record_congr (by simp) wn

@[simp] theorem runRearm_record (b : Byte) (wn : WindowNo) :
    (s.runRearm b).record wn = s.record wn := by
  dsimp only [State.runRearm]
  (repeat' split) <;> simp <;>
    simp only [State.record, State.setWindow, Fin.getElem_fin, Vector.getElem_set]
  split
  · rename_i h; cases Fin.ext h; rfl
  · rfl

@[simp] theorem handCounted_record (qs : List SweepRequest) (wn : WindowNo) :
    ((s.handCounted qs).1).record wn = s.record wn :=
  record_congr (by simp) wn

@[simp] theorem handCommanded_record (a : SweepAction) (ws : List WindowNo) (wn : WindowNo) :
    (s.handCommanded a ws).record wn = s.record wn :=
  record_congr (by simp) wn

@[simp] theorem runSweep_record (w a : Byte) (wn : WindowNo) :
    (s.runSweep w a).record wn = s.record wn :=
  record_congr (by simp) wn

@[simp] theorem runRelease_record (a : ByteAddr) (wn : WindowNo) :
    (s.runRelease a).record wn = s.record wn :=
  record_congr (by simp) wn

@[simp] theorem runLogReset_record (wn : WindowNo) :
    (s.runLogReset).record wn = s.record wn :=
  record_congr (by simp) wn

@[simp] theorem runCommand_record (c : CommandLine) (wn : WindowNo) :
    (s.runCommand c).record wn = s.record wn := by
  dsimp only [State.runCommand]
  (repeat' split) <;> simp

@[simp] theorem takeIntervals_record (k : Nat) (e : Enables) (wn : WindowNo) :
    (s.takeIntervals k e).record wn = s.record wn :=
  record_congr (by simp) wn

@[simp] theorem takeSetting_record (k : Nat) (e : Enables) (d : Line) (wn : WindowNo) :
    (s.takeSetting k e d).record wn = s.record wn :=
  record_congr (by simp) wn

@[simp] theorem refuse_record (q : UpRequest) (w : Option WindowNo) (x : Reason) (wn : WindowNo) :
    (s.refuse q w x).record wn = s.record wn :=
  record_congr (by simp) wn

@[simp] theorem servePass_record (q : UpRequest) (wn : WindowNo) :
    (s.servePass q).record wn = s.record wn :=
  record_congr (by simp) wn

@[simp] theorem serveControl_record (q : UpRequest) (k : Nat) (wn : WindowNo) :
    (s.serveControl q k).record wn = s.record wn :=
  record_congr (by simp) wn

@[simp] theorem servePartOwned_record (q : UpRequest) (wn : WindowNo) :
    (s.servePartOwned q).record wn = s.record wn :=
  record_congr (by simp) wn

@[simp] theorem serveStatus_record (q : UpRequest) (wn : WindowNo) :
    (s.serveStatus q).record wn = s.record wn :=
  record_congr (by simp) wn

@[simp] theorem takeCommand_record (q : UpRequest) (d : Line) (wn : WindowNo) :
    (s.takeCommand q d).record wn = s.record wn := by
  simp [State.takeCommand]
  rfl

@[simp] theorem serveCommand_record (q : UpRequest) (wn : WindowNo) :
    (s.serveCommand q).record wn = s.record wn := by
  dsimp only [State.serveCommand]
  (repeat' split) <;> simp

@[simp] theorem postUpdate_record (q : UpRequest) (h : Hold) (d : Line) (e : BitVec 8) (wn : WindowNo) :
    (s.postUpdate q h d e).record wn = s.record wn := by
  dsimp only [State.postUpdate]
  (repeat' split) <;> simp

@[simp] theorem postRead_record (q : UpRequest) (h : Hold) (wn : WindowNo) :
    (s.postRead q h).record wn = s.record wn := by
  dsimp only [State.postRead]
  (repeat' split) <;> first | (simp; done) | (simp; rfl)

@[simp] theorem serveWindow_record (q : UpRequest) (w : WindowNo) (r : WindowRecord) (wn : WindowNo) :
    (s.serveWindow q w r).record wn = s.record wn := by
  dsimp only [State.serveWindow]
  (repeat' split) <;> simp

@[simp] theorem examine_record (q : UpRequest) (wn : WindowNo) :
    (s.examine q).record wn = s.record wn := by
  dsimp only [State.examine]
  (repeat' split) <;> simp

@[simp] theorem examineHead_record (wn : WindowNo) :
    (s.examineHead).record wn = s.record wn := by
  dsimp only [State.examineHead]
  (repeat' split) <;> simp

@[simp] theorem expire_record (t : DownTag) (wn : WindowNo) :
    (((s.expire t).getD s)).record wn = s.record wn := by
  dsimp only [State.expire]
  (repeat' split) <;> simp

@[simp] theorem foldl_expire_record (xs : List (DownTag)) (wn : WindowNo) :
    ((xs.foldl (fun acc x => (acc.expire x).getD acc) s)).record wn = s.record wn := by
  induction xs generalizing s with
  | nil => simp
  | cons x xs ih => simp [ih]

@[simp] theorem settleChange_record (n : InputNo) (wn : WindowNo) :
    (((s.settleChange n).getD s)).record wn = s.record wn :=
  record_congr (by simp) wn

@[simp] theorem foldl_settleChange_record (xs : List (InputNo)) (wn : WindowNo) :
    ((xs.foldl (fun acc x => (acc.settleChange x).getD acc) s)).record wn = s.record wn :=
  record_congr (by simp) wn

@[simp] theorem settleStuck_record (n : InputNo) (wn : WindowNo) :
    (((s.settleStuck n).getD s)).record wn = s.record wn :=
  record_congr (by simp) wn

@[simp] theorem foldl_settleStuck_record (xs : List (InputNo)) (wn : WindowNo) :
    ((xs.foldl (fun acc x => (acc.settleStuck x).getD acc) s)).record wn = s.record wn :=
  record_congr (by simp) wn

@[simp] theorem settleChord_record (wn : WindowNo) :
    (((s.settleChord).getD s)).record wn = s.record wn :=
  record_congr (by simp) wn

@[simp] theorem settleInterval_record (w : WindowNo) (wn : WindowNo) :
    (((s.settleInterval w).getD s)).record wn = s.record wn :=
  record_congr (by simp) wn

@[simp] theorem foldl_settleInterval_record (xs : List (WindowNo)) (wn : WindowNo) :
    ((xs.foldl (fun acc x => (acc.settleInterval x).getD acc) s)).record wn = s.record wn :=
  record_congr (by simp) wn

@[simp] theorem settle_record (wn : WindowNo) :
    (s.settle).record wn = s.record wn := by
  simp [State.settle]

@[simp] theorem passTick_record (v : BitVec 4) (wn : WindowNo) :
    (s.passTick v).record wn = s.record wn := by
  dsimp only [State.passTick]
  split
  · simp only [sample_record, countIntervals_record]; exact (record_congr (by simp) wn).trans (settle_record s wn)
  · exact (record_congr (by simp) wn).trans (settle_record s wn)

@[simp] theorem takeResponse_record (r : DownResponse) (wn : WindowNo) :
    (((s.takeResponse r).getD s)).record wn = s.record wn := by
  dsimp only [State.takeResponse]
  (repeat' split) <;> simp

@[simp] theorem grantNext_record (wn : WindowNo) :
    (((s.grantNext).getD s)).record wn = s.record wn :=
  record_congr (by simp) wn

@[simp] theorem presentNext_record (wn : WindowNo) :
    (((s.presentNext).getD s)).record wn = s.record wn :=
  record_congr (by simp) wn

@[simp] theorem sendResponse_record (wn : WindowNo) :
    (((s.sendResponse).getD s)).record wn = s.record wn :=
  record_congr (by simp) wn

@[simp] theorem takeEventClaim_record (wn : WindowNo) :
    (((s.takeEventClaim).getD s)).record wn = s.record wn := by
  dsimp only [State.takeEventClaim]
  unfold Option.map
  (repeat' split) <;> simp

@[simp] theorem takeSweepClaim_record (wn : WindowNo) :
    (((s.takeSweepClaim).getD s)).record wn = s.record wn := by
  dsimp only [State.takeSweepClaim]
  (repeat' split) <;> simp

@[simp] theorem takeReleaseClaim_record (wn : WindowNo) :
    (((s.takeReleaseClaim).getD s)).record wn = s.record wn := by
  dsimp only [State.takeReleaseClaim]
  unfold Option.map
  (repeat' split) <;> first | (simp; done) | (simp; rfl)

@[simp] theorem beginSweep_record (wn : WindowNo) :
    (((s.beginSweep).getD s)).record wn = s.record wn := by
  dsimp only [State.beginSweep]
  unfold Option.map
  (repeat' split) <;> simp

@[simp] theorem closeHeader_record (wn : WindowNo) :
    (((s.closeHeader).getD s)).record wn = s.record wn :=
  record_congr (by simp) wn

@[simp] theorem closeSweep_record (wn : WindowNo) :
    (((s.closeSweep).getD s)).record wn = s.record wn :=
  record_congr (by simp) wn

@[simp] theorem abandonHeader_record (wn : WindowNo) :
    (((s.abandonHeader).getD s)).record wn = s.record wn :=
  record_congr (by simp) wn

@[simp] theorem reportAbandoned_record (sw : Sweep) (wn : WindowNo) :
    (s.reportAbandoned sw).record wn = s.record wn :=
  record_congr (by simp) wn

@[simp] theorem endAbandoned_record (wn : WindowNo) :
    (((s.endAbandoned).getD s)).record wn = s.record wn :=
  record_congr (by simp) wn

@[simp] theorem arrive_record (q : UpRequest) (wn : WindowNo) :
    (((s.arrive q).getD s)).record wn = s.record wn := by
  dsimp only [State.arrive]
  (repeat' split) <;> first | (simp; done) | (simp; rfl)

end Sys2Proof.Machine
end

