-- ==== Sys2Proof/Laws/Requests.lean ====
section
/-!
SUPPORT. What an arriving request meets: the conditions of `State.serves` taken apart, the examination of a request the
port serves, and the lines of the Control Area.
-/

namespace Sys2Proof.Machine

variable (s : State)

@[simp] theorem lineOf_byteAddr (l : LineAddr) : lineOf (byteAddr l) = l := by
  simp only [lineOf, byteAddr]
  apply BitVec.eq_of_getLsbD_eq
  intro i hi
  rw [BitVec.getLsbD_extractLsb', BitVec.getLsbD_append]
  simp [hi]

/-- The port serves a request exactly when it holds no head, is out of reset, examines heads, and the tag is free. -/
theorem serves_iff (tag : UpTag) : s.serves tag = true ↔
    s.head = none ∧ s.bootStage ≠ .inReset ∧ s.examines = true ∧ s.outstanding.contains tag = false := by
  simp [State.serves, and_assoc]

/-- A request the port serves is examined at once. -/
theorem arrive_of_serves (q : UpRequest) (h : s.serves q.tag = true) :
    s.arrive q = some ({ s with head := some q }.examine q) := by
  obtain ⟨h1, h2, h3, -⟩ := (serves_iff s _).1 h
  have h4 : ({ s with head := some q } : State).examines = true := h3
  simp [State.arrive, State.examineHead, h1, h2, h4]

/-- A request the port takes while it holds no head leaves the state it found. -/
theorem leave_arrived (q : UpRequest) (h : s.head = none) : ({ s with head := some q } : State).leave = s := by
  cases s; simp_all [State.leave]

/-- A request examined as it arrives and refused. -/
theorem refuse_arrived (q : UpRequest) (w : Option WindowNo) (x : Reason) (h : s.head = none) :
    ({ s with head := some q } : State).refuse q w x = s.refusedWith q.tag q.addr w x := by
  simp only [State.refuse, State.refusedWith, State.answerHead, leave_arrived s q h]

/-- A request answered as it arrives. -/
theorem answerHead_arrived (q : UpRequest) (r : Result) (d : Option Line) (h : s.head = none) :
    ({ s with head := some q } : State).answerHead q r d = s.respond q.tag r d := by
  simp only [State.answerHead, leave_arrived s q h]

/-- Line `k` of the Control Area is line `k` of the Control Area. -/
@[simp] theorem controlIndex_controlLine (k : Fin 42) : s.controlIndex (s.controlLine k.val) = some k := by
  have h : (s.controlLine k.val - s.controlBase).toNat = k.val := by
    have : s.controlLine k.val - s.controlBase = BitVec.ofNat 28 k.val := by
      simp only [State.controlLine]; ring
    rw [this, BitVec.toNat_ofNat, Nat.mod_eq_of_lt (by omega)]
  simp [State.controlIndex, h]

/-- The class of a Control Area line. -/
theorem classify_controlLine (k : Fin 42) : s.classify (s.controlLine k.val) =
    if k.val = 0 then .status else if k.val = 1 then .command else .control k := by
  simp [State.classify]

theorem classify_status : s.classify (s.controlLine 0) = .status := classify_controlLine s 0

theorem classify_command : s.classify (s.controlLine 1) = .command := classify_controlLine s 1

theorem classify_setting (k : Fin 42) (h : 2 ≤ k.val) : s.classify (s.controlLine k.val) = .control k := by
  rw [classify_controlLine, if_neg (by omega), if_neg (by omega)]

/-- The head a state holds plays no part in classification. -/
@[simp] theorem classify_head (o : Option UpRequest) (l : LineAddr) :
    ({ s with head := o } : State).classify l = s.classify l := rfl

/-- What the examination of a request with a free tag does, by its class. -/
theorem examine_of_class (q : UpRequest) (h : s.outstanding.contains q.tag = false) : s.examine q =
    match s.classify (lineOf q.addr) with
    | .status => s.serveStatus q
    | .command => s.serveCommand q
    | .control k => s.serveControl q k.val
    | .log => s.servePartOwned q
    | .shadow => s.servePartOwned q
    | .pass => s.servePass q
    | .window w =>
      match s.record w with
      | some r => s.serveWindow q w r
      | none => s.servePass q := by
  simp only [State.examine, h, Bool.false_eq_true, if_false]
  try rfl

/-! ### Command writes -/

theorem takesCommand_iff (tag : UpTag) :
    s.takesCommand tag = true ↔ s.serves tag = true ∧ s.command.state ≠ .running := by
  simp [State.takesCommand]

@[simp] theorem enablesCommand_append (e : BitVec 8) : enablesCommand (e ++ (0xFF : Byte)) = true := by
  simp only [enablesCommand, beq_iff_eq]
  apply BitVec.eq_of_getLsbD_eq
  intro i hi
  rw [BitVec.getLsbD_extractLsb', BitVec.getLsbD_append]
  simp [hi]

/-- The command line takes bytes 0–7 of a command write. -/
theorem take_commandData (c : CommandLine) (cmd : CommandWrite) (code : Byte) : c.take (commandData cmd code) =
    ⟨code, cmd.window, cmd.action, cmd.swTag, cmd.argument, .none, .running, c.count + 1⟩ := by
  have h : ∀ (n w : Nat) (v : BitVec w),
      (∀ i < w, (commandData cmd code).getLsbD (8 * n + i) = v.getLsbD i) → fieldAt (commandData cmd code) n w = v := by
    intro n w v hv
    apply BitVec.eq_of_getLsbD_eq
    intro i hi
    rw [fieldAt, BitVec.getLsbD_extractLsb', hv i hi]
    simp [hi]
  have f0 : fieldAt (commandData cmd code) 0 8 = code := h _ _ _ fun i hi => by
    simp only [commandData, BitVec.getLsbD_append]; split_ifs <;> first | omega | (congr 1; omega)
  have f1 : fieldAt (commandData cmd code) 1 8 = cmd.window := h _ _ _ fun i hi => by
    simp only [commandData, BitVec.getLsbD_append]; split_ifs <;> first | omega | (congr 1; omega)
  have f2 : fieldAt (commandData cmd code) 2 8 = cmd.action := h _ _ _ fun i hi => by
    simp only [commandData, BitVec.getLsbD_append]; split_ifs <;> first | omega | (congr 1; omega)
  have f3 : fieldAt (commandData cmd code) 3 8 = cmd.swTag := h _ _ _ fun i hi => by
    simp only [commandData, BitVec.getLsbD_append]; split_ifs <;> first | omega | (congr 1; omega)
  have f4 : fieldAt (commandData cmd code) 4 32 = cmd.argument := h _ _ _ fun i hi => by
    simp only [commandData, BitVec.getLsbD_append]; split_ifs <;> first | omega | (congr 1; omega)
  simp only [fieldAt] at f0 f1 f2 f3
  simp only [CommandLine.take, byteAt, f0, f1, f2, f3, f4]

/-- A command write that is taken: OKAY, the line changed, the command carried out (R13, R153). -/
theorem arrive_command (tag : UpTag) (code : Byte) (cmd : CommandWrite) (h : s.takesCommand tag = true) :
    s.arrive (s.commandRequest tag code cmd) = some ((s.taken tag code cmd).runCommand
      ⟨code, cmd.window, cmd.action, cmd.swTag, cmd.argument, .none, .running, s.command.count + 1⟩) := by
  obtain ⟨hs, hr⟩ := (takesCommand_iff s tag).1 h
  obtain ⟨h1, -, -, h4⟩ := (serves_iff s _).1 hs
  have hc : ∀ o, ({ s with head := o } : State).command.state ≠ .running := fun _ => hr
  rw [arrive_of_serves s (s.commandRequest tag code cmd) hs, examine_of_class _ _ (by exact h4)]
  simp only [State.commandRequest, State.controlRequest, lineOf_byteAddr, classify_head, classify_command,
    State.serveCommand, if_neg (hc _), enablesCommand_append, State.takeCommand, answerHead_arrived s _ _ _ h1,
    take_commandData, State.taken]
  rfl

end Sys2Proof.Machine
end

