-- ==== Sys2Proof/Laws/Exec.lean ====
section
/-!
SUPPORT. What each command's answer is: the step's end after its effect. One lemma for each command, and the rules that
hold of every command.
-/

namespace Sys2Proof.Machine

variable (s : State)

@[simp] theorem exec_powerOnReset :
    exec .powerOnReset s = finish s (some (s.afterReset .powerOn false)) := rfl

@[simp] theorem exec_warmReset :
    exec .warmReset s = finish s (some (s.afterReset .warm s.wasActive)) := rfl

@[simp] theorem exec_resetRelease (sel : BitVec 3) :
    exec (.resetRelease sel) s = finish s (if s.bootStage = .inReset then some (s.beginBoot sel) else none) := rfl

@[simp] theorem exec_bootSettingsApplied :
    exec .bootSettingsApplied s = finish s (if s.bootSettingsRead then some s.applyBootSettings else none) := rfl

@[simp] theorem exec_statusCopyFormed :
    exec .statusCopyFormed s = finish s (if s.statusLineRead then some s.formPinned else none) := rfl

@[simp] theorem exec_bootEnd :
    exec .bootEnd s =
      finish s (if s.bootDone then some (if s.armsAtBoot then s.enterLoading else (s.enter .pass).examineHead) else none) := rfl

@[simp] theorem exec_loadingComplete :
    exec .loadingComplete s = finish s (if s.settingsRead then some s.completeLoading.examineHead else none) := rfl

@[simp] theorem exec_drainingEnd :
    exec .drainingEnd s =
      finish s (if s.drained then some ((s.emptyTables.completeCommand .ok).enter .pass).examineHead else none) := rfl

@[simp] theorem exec_tickIncrement (levels : BitVec 4) :
    exec (.tickIncrement levels) s =
      finish s (if s.bootStage = .inReset then none else some (s.passTick levels)) := rfl

@[simp] theorem exec_acceptedChange (input : InputNo) :
    exec (.acceptedChange input) s = finish s (s.settleChange input) := rfl

@[simp] theorem exec_eventStuck (input : InputNo) :
    exec (.eventStuck input) s = finish s (s.settleStuck input) := rfl

@[simp] theorem exec_chordFires :
    exec .chordFires s = finish s s.settleChord := rfl

@[simp] theorem exec_intervalExpiry (window : WindowNo) :
    exec (.intervalExpiry window) s = finish s (s.settleInterval window) := rfl

@[simp] theorem exec_requestExpiry (tag : DownTag) :
    exec (.requestExpiry tag) s = finish s (s.expire tag) := rfl

@[simp] theorem exec_passThroughRequest (req : UpRequest) :
    exec (.passThroughRequest req) s = finish s (s.arrive req) := rfl

@[simp] theorem exec_windowWrite (tag : UpTag) (addr : ByteAddr) (enables : Enables) (data : Line) :
    exec (.windowWrite tag addr enables data) s = finish s (s.arrive ⟨tag, addr, .write enables data⟩) := rfl

@[simp] theorem exec_windowRead (tag : UpTag) (addr : ByteAddr) :
    exec (.windowRead tag addr) s = finish s (s.arrive ⟨tag, addr, .read⟩) := rfl

@[simp] theorem exec_statusLineRead (tag : UpTag) :
    exec (.statusLineRead tag) s = finish s (s.arrive (s.controlRequest tag 0 .read)) := rfl

@[simp] theorem exec_protectWrite (tag : UpTag) (enables : Enables) (data : Line) :
    exec (.protectWrite tag enables data) s = finish s (s.arrive (s.controlRequest tag 2 (.write enables data))) := rfl

@[simp] theorem exec_liveSettingWrite (tag : UpTag) (line : Fin 42) (enables : Enables) (data : Line) :
    exec (.liveSettingWrite tag line enables data) s =
      finish s (s.arrive (s.controlRequest tag line.val (.write enables data))) := rfl

@[simp] theorem exec_controlAreaLineWrite (tag : UpTag) (line : Fin 42) (enables : Enables) (data : Line) :
    exec (.controlAreaLineWrite tag line enables data) s =
      finish s (s.arrive (s.controlRequest tag line.val (.write enables data))) := rfl

@[simp] theorem exec_arm (tag : UpTag) (cmd : CommandWrite) :
    exec (.arm tag cmd) s = finish s (s.arrive (s.commandRequest tag 0x01 cmd)) := rfl

@[simp] theorem exec_disarm (tag : UpTag) (cmd : CommandWrite) :
    exec (.disarm tag cmd) s = finish s (s.arrive (s.commandRequest tag 0x02 cmd)) := rfl

@[simp] theorem exec_rearm (tag : UpTag) (cmd : CommandWrite) :
    exec (.rearm tag cmd) s = finish s (s.arrive (s.commandRequest tag 0x03 cmd)) := rfl

@[simp] theorem exec_sweep (tag : UpTag) (cmd : CommandWrite) :
    exec (.sweep tag cmd) s = finish s (s.arrive (s.commandRequest tag 0x04 cmd)) := rfl

@[simp] theorem exec_release (tag : UpTag) (cmd : CommandWrite) :
    exec (.release tag cmd) s = finish s (s.arrive (s.commandRequest tag 0x05 cmd)) := rfl

@[simp] theorem exec_logReset (tag : UpTag) (cmd : CommandWrite) :
    exec (.logReset tag cmd) s = finish s (s.arrive (s.commandRequest tag 0x06 cmd)) := rfl

@[simp] theorem exec_badCommand (tag : UpTag) (code : Byte) (cmd : CommandWrite) :
    exec (.badCommand tag code cmd) s = finish s (s.arrive (s.commandRequest tag code cmd)) := rfl

@[simp] theorem exec_headReexamination :
    exec .headReexamination s = finish s (if s.examines && s.head.any s.headTurn then some s.examineHead else none) := rfl

@[simp] theorem exec_eventClaimTaken :
    exec .eventClaimTaken s = finish s (if s.partState = .active then s.takeEventClaim else none) := rfl

@[simp] theorem exec_sweepClaimTaken :
    exec .sweepClaimTaken s = finish s (if s.partState = .active then s.takeSweepClaim else none) := rfl

@[simp] theorem exec_releaseClaimTaken :
    exec .releaseClaimTaken s = finish s (if s.partState = .active then s.takeReleaseClaim else none) := rfl

@[simp] theorem exec_sweepStart :
    exec .sweepStart s = finish s (if s.partState = .active then s.beginSweep else none) := rfl

@[simp] theorem exec_closingHeaderProduced :
    exec .closingHeaderProduced s = finish s s.closeHeader := rfl

@[simp] theorem exec_sweepClose :
    exec .sweepClose s = finish s s.closeSweep := rfl

@[simp] theorem exec_abandoningHeaderProduced :
    exec .abandoningHeaderProduced s = finish s s.abandonHeader := rfl

@[simp] theorem exec_sweepAbandoned :
    exec .sweepAbandoned s = finish s s.endAbandoned := rfl

@[simp] theorem exec_portGrant :
    exec .portGrant s = finish s (if s.bootStage = .inReset then none else s.grantNext) := rfl

@[simp] theorem exec_downstreamRequestTaken :
    exec .downstreamRequestTaken s = finish s s.presentNext := rfl

@[simp] theorem exec_responseSent :
    exec .responseSent s = finish s (if s.bootStage = .inReset then none else s.sendResponse) := rfl

@[simp] theorem exec_passResponse (rsp : DownResponse) :
    exec (.passResponse rsp) s = finish s (s.takeResponse rsp) := rfl

@[simp] theorem exec_fetchResponse (rsp : DownResponse) :
    exec (.fetchResponse rsp) s = finish s (s.takeResponse rsp) := rfl

@[simp] theorem exec_writebackResponse (rsp : DownResponse) :
    exec (.writebackResponse rsp) s = finish s (s.takeResponse rsp) := rfl

@[simp] theorem exec_shadowResponse (rsp : DownResponse) :
    exec (.shadowResponse rsp) s = finish s (s.takeResponse rsp) := rfl

@[simp] theorem exec_logWriteResponse (rsp : DownResponse) :
    exec (.logWriteResponse rsp) s = finish s (s.takeResponse rsp) := rfl

@[simp] theorem exec_setupResponse (rsp : DownResponse) :
    exec (.setupResponse rsp) s = finish s (s.takeResponse rsp) := rfl

@[simp] theorem exec_lateResponse (rsp : DownResponse) :
    exec (.lateResponse rsp) s = finish s (s.takeResponse rsp) := rfl

@[simp] theorem exec_headRequestHeld (req : UpRequest) :
    exec (.headRequestHeld req) s = finish s (s.arrive req) := rfl

@[simp] theorem exec_partOwnedWrite (tag : UpTag) (addr : ByteAddr) (enables : Enables) (data : Line) :
    exec (.partOwnedWrite tag addr enables data) s = finish s (s.arrive ⟨tag, addr, .write enables data⟩) := rfl

@[simp] theorem exec_commandWriteRefused (tag : UpTag) (enables : Enables) (data : Line) :
    exec (.commandWriteRefused tag enables data) s =
      finish s (s.arrive (s.controlRequest tag 1 (.write enables data))) := rfl

/-- Every command answers a next state: the state as it was, or its effect with the step's end. -/
theorem exec_eq_finish (c : Instr) : ∃ o, exec c s = finish s o := by
  cases c <;> first
    | exact ⟨_, exec_powerOnReset s⟩
    | exact ⟨_, exec_warmReset s⟩
    | exact ⟨_, rfl⟩

end Sys2Proof.Machine
end

