-- ==== Sys2Proof/Laws/Lookups.lean ====
section
/-!
SUPPORT. What the lookups answer (the entry of a line, the lowest FREE entry and tag, the window of a line, the place of an
item), and what acceptance does at each place.
-/

namespace Sys2Proof.Machine

variable (s : State)

/-! ### Lookups -/

/-- An entry holds a line exactly when its hold names it. -/
theorem holds_iff (l : LineAddr) (e : Entry) : e.holds l = true ↔ ∃ h, e.hold? = some h ∧ h.line = l := by
  unfold Entry.holds
  cases e.hold? <;> simp

theorem entryOf_some {s : State} {l : LineAddr} {i : Fin 12} (h : s.entryOf l = some i) :
    s.entries[i].holds l = true := by
  unfold State.entryOf at h
  exact List.find?_some (p := fun i : Fin 12 => s.entries[i].holds l) h

theorem entryOf_none {s : State} {l : LineAddr} : s.entryOf l = none ↔ ∀ i : Fin 12, s.entries[i].holds l = false := by
  simp [State.entryOf, List.find?_eq_none]

theorem freeEntry_some {s : State} {i : Fin 12} (h : s.freeEntry = some i) : s.entries[i] = .free := by
  have h1 := List.find?_some h
  revert h1
  cases s.entries[i] <;> simp [Entry.inUse, Entry.hold?]

theorem freeTag_some {s : State} {t : DownTag} (h : s.freeTag = some t) : s.tags[t] = .free := by
  have h1 := List.find?_some h
  revert h1
  cases s.tags[t] <;> simp [TagState.isFree]

theorem windowOf_some {s : State} {l : LineAddr} {w : WindowNo} (h : s.windowOf l = some w) :
    ∃ r, s.inService w = some r ∧ lineIn r.base r.length l = true := by
  have h1 := List.find?_some h
  unfold State.windowHolds at h1
  split at h1
  · exact ⟨_, ‹_›, h1⟩
  · cases h1

theorem inService_iff (w : WindowNo) (r : WindowRecord) :
    s.inService w = some r ↔ s.record w = some r ∧ r.enable = true := by
  unfold State.inService
  cases s.record w with
  | none => simp
  | some x =>
    dsimp only
    by_cases hx : x.enable = true
    · rw [if_pos hx]
      constructor
      · rintro ⟨⟩; exact ⟨rfl, hx⟩
      · exact fun e => e.1
    · rw [if_neg hx]
      constructor
      · intro e; cases e
      · rintro ⟨⟨⟩, he⟩; exact absurd he hx

/-! ### The place of an item (R71, R73, R74) -/

theorem place_openAt {s : State} {l : LineAddr} {i : Fin 12} (h : s.place l = .openAt i) :
    s.entryOf l = none ∧ s.freeEntry = some i := by
  unfold State.place at h
  split at h
  · split at h <;> (try split at h) <;> cases h
  · split at h
    · cases h; exact ⟨‹_›, ‹_›⟩
    · cases h

theorem place_join {s : State} {l : LineAddr} {i : Fin 12} (h : s.place l = .join i) :
    s.entryOf l = some i ∧ s.entries[i].queue.length < 8 := by
  unfold State.place at h
  split at h
  · rename_i j hj
    split at h <;> (try split at h) <;> cases h <;> refine ⟨hj, ?_⟩ <;> simp_all [Entry.queue]
  · split at h <;> cases h

theorem place_apply {s : State} {l : LineAddr} {i : Fin 12} (h : s.place l = .apply i) : s.entryOf l = some i := by
  unfold State.place at h
  split at h
  · rename_i j hj
    split at h <;> (try split at h) <;> cases h <;> exact hj
  · split at h <;> cases h

/-! ### Acceptance at each place -/

theorem accept_openAt (h : Hold) (x : Item) (i : Fin 12) (hp : s.place h.line = .openAt i) :
    s.accept h x = { s with entries := s.entries.set i (.fetchWait h [x]) } := by
  simp only [State.accept, hp]; rfl

theorem accept_fetchWait (h k : Hold) (x : Item) (i : Fin 12) (q : List Item) (hp : s.place h.line = .join i)
    (he : s.entries[i] = .fetchWait k q) :
    s.accept h x = { s with entries := s.entries.set i (.fetchWait k (q ++ [x])) } := by
  simp only [State.accept, hp, State.joinQueue, he]; rfl

theorem accept_fetching (h k : Hold) (x : Item) (i : Fin 12) (q : List Item) (d : DownTag)
    (hp : s.place h.line = .join i) (he : s.entries[i] = .fetching k q d) :
    s.accept h x = { s with entries := s.entries.set i (.fetching k (q ++ [x]) d) } := by
  simp only [State.accept, hp, State.joinQueue, he]; rfl

theorem accept_wbWait (h k : Hold) (x : Item) (i : Fin 12) (c : Line) (im : Option Line) (m : Bool)
    (hp : s.place h.line = .apply i) (he : s.entries[i] = .wbWait k c im m) :
    s.accept h x = (s.applyItem k x c).2.setEntry i (.wbWait k (s.applyItem k x c).1 im m) := by
  simp only [State.accept, hp, State.applyAt, he]

theorem accept_writing (h k : Hold) (x : Item) (i : Fin 12) (c : Line) (im : Option Line) (m b : Bool) (sent : Line)
    (d : DownTag) (hp : s.place h.line = .apply i) (he : s.entries[i] = .writing k c im m b sent d) :
    s.accept h x = (s.applyItem k x c).2.setEntry i
      (.writing k (s.applyItem k x c).1 im m (b || (s.applyItem k x c).1 != c) sent d) := by
  simp only [State.accept, hp, State.applyAt, he]

/-! ### Incidents and sweep requests: the four and two things that can become of one -/

/-- A report leaves the state as it is, sets LOG_FULL or LOG_DROPPED alone, keeps the incident, or records it
(R162, R163). -/
theorem report_cases (k : IncidentKind) (w : Option WindowNo) (a : ByteAddr) (d : BitVec 32) :
    let i : Incident := ⟨k, w, s.tick, a, d⟩
    let t := s.report k w a d
    t = s ∨ t = s.setPartFlag .logFull ∨ t = s.setPartFlag .logDropped ∨
    (s.bootStage ≠ .formed ∧ s.logQueue.length < 4 ∧ t = { s with logQueue := s.logQueue ++ [.kept i] }) ∨
    (s.bootStage = .formed ∧ s.logQueue.length < 4 ∧ t = { s with
      logQueue := s.logQueue ++ [.record s.logNext i], logNext := s.logNext + 1
      logHeld := if s.logHeld < 32 then s.logHeld + 1 else s.logHeld }) := by
  simp only [State.report, State.logIncident, State.takeIncident, State.keepIncident]
  split <;> (repeat' split) <;> simp_all

/-- A sweep request is queued at the tail, or dropped as an overrun (R133). -/
theorem handSweep_cases (q : SweepRequest) :
    (s.dropsSweep q = true ∧ s.handSweep q = (s.setPartFlag .sweepOverrun).report .sweepOverrun (some q.window)
      (byteAddr (s.windowBase q.window)) (q.source.code.setWidth 32)) ∨
    (s.dropsSweep q = false ∧ s.handSweep q = { s with sweepQueue := s.sweepQueue ++ [q] }) := by
  unfold State.handSweep
  cases s.dropsSweep q <;> simp

end Sys2Proof.Machine
end

