-- ==== Sys2Proof/Laws/Judging.lean ====
section
/-!
SUPPORT. What LOADING judges, in the words of the statements: ranges that share a line, the record a descriptor describes,
and the first test of Table 3-6, or of Table 8-4, that holds.
-/

namespace Sys2Proof.Machine

variable (s : State)

/-! ### Ranges (R42) -/

/-- Two ranges share a line exactly when some number lies in both. -/
theorem rangesOverlap_iff (a b : LineRange) :
    rangesOverlap a b = true ↔ ∃ n, (a.1 ≤ n ∧ n < a.1 + a.2) ∧ b.1 ≤ n ∧ n < b.1 + b.2 := by
  simp only [rangesOverlap, decide_eq_true_eq]
  constructor
  · intro h; exact ⟨max a.1 b.1, by omega, by omega⟩
  · rintro ⟨n, h⟩; omega

/-- A range in the space and another range share a line exactly when some line lies in both. -/
theorem overlap_lines (base : LineAddr) (len : Nat) (b : LineRange) (h : base.toNat + len ≤ 2 ^ 28) :
    rangesOverlap (base.toNat, len) b = true ↔
      ∃ l : LineAddr, lineIn base len l = true ∧ b.1 ≤ l.toNat ∧ l.toNat < b.1 + b.2 := by
  rw [rangesOverlap_iff]
  simp only [lineIn, decide_eq_true_eq]
  constructor
  · rintro ⟨n, h1, h2⟩
    have : n < 2 ^ 28 := by omega
    exact ⟨BitVec.ofNat 28 n, by simp [BitVec.toNat_ofNat]; omega, by simp [BitVec.toNat_ofNat]; omega⟩
  · rintro ⟨l, h1, h2⟩; exact ⟨l.toNat, h1, h2⟩

/-- A range in the space shares no line with the counted ranges of a state whose valid windows all lie below `w` exactly
when its lines are free. -/
theorem linesFree_iff (w : WindowNo) (base : LineAddr) (len : Nat) (h : base.toNat + len ≤ 2 ^ 28)
    (hw : ∀ v : WindowNo, w ≤ v → s.record v = none) :
    s.countedRanges.any (rangesOverlap (base.toNat, len)) = false ↔ s.linesFree w base len := by
  have hc : s.controlBase.toNat + 42 ≤ 2 ^ 28 := by
    have : s.controlBase.toNat = s.setupSel.toNat * 2 ^ 25 := by
      simp only [State.controlBase, BitVec.toNat_append, Nat.shiftLeft_eq]
      simp
    have := s.setupSel.isLt
    omega
  have hci : ∀ l : LineAddr, s.controlIndex l = none ↔
      ¬(s.controlBase.toNat ≤ l.toNat ∧ l.toNat < s.controlBase.toNat + 42) := by
    intro l
    have h2 : (l - s.controlBase).toNat = (2 ^ 28 - s.controlBase.toNat + l.toNat) % 2 ^ 28 := by simp [BitVec.toNat_sub]
    have := l.isLt; have := s.controlBase.isLt
    unfold State.controlIndex
    split <;> simp only [reduceCtorEq, false_iff, true_iff] <;> omega
  have hex : ∀ b : LineRange, rangesOverlap (base.toNat, len) b = false ↔
      ∀ l : LineAddr, lineIn base len l = true → ¬(b.1 ≤ l.toNat ∧ l.toNat < b.1 + b.2) := by
    intro b
    rw [← Bool.not_eq_true, overlap_lines base len b h]; push Not; rfl
  simp only [State.countedRanges, List.any_append, List.any_cons, Bool.or_eq_false_iff, hex, State.controlRange]
  have hlog : s.logRange.any (rangesOverlap (base.toNat, len)) = false ↔
      ∀ l, lineIn base len l = true → s.inLog l = false := by
    unfold State.logRange State.inLog
    split
    · simp_all
    · rename_i hs
      simp only [List.any_cons, List.any_nil, Bool.or_false, hex]
      simp only [lineIn]
      simp [hs]
  have hwin : s.windowRanges.any (rangesOverlap (base.toNat, len)) = false ↔
      ∀ l, lineIn base len l = true → ∀ v : WindowNo, v < w → s.shadowHolds l v = false ∧
        ∀ q : WindowRecord, s.record v = some q → lineIn q.base q.length l = false := by
    unfold State.windowRanges
    rw [List.any_flatMap]
    simp only [List.any_eq_false, List.mem_finRange, true_implies, Bool.not_eq_true]
    constructor
    · intro hh l hl v hv
      have := hh v
      cases hr : s.record v with
      | none => simp [State.shadowHolds, hr]
      | some r =>
        simp only [hr, List.mem_cons] at this
        refine ⟨?_, ?_⟩
        · simp only [State.shadowHolds, hr]
          by_cases h0 : r.shadowBase = 0
          · simp [h0]
          · have := (hex _).1 (this (r.shadowBase.toNat, r.length + 1)
              (by right; simp only [WindowRecord.shadowRange, if_neg h0, List.mem_singleton])) l hl
            simpa [lineIn, h0] using fun _ => this
        · rintro q ⟨⟩
          have := (hex _).1 (this r.range (by simp)) l hl
          simpa [lineIn, WindowRecord.range] using this
    · intro hh v
      by_cases hv : v < w
      · cases hr : s.record v with
        | none => simp
        | some r =>
          simp only [List.mem_cons]
          rintro b (rfl | hb)
          · rw [hex]; intro l hl
            have := (hh l hl v hv).2 r hr
            simpa [lineIn, WindowRecord.range] using this
          · by_cases h0 : r.shadowBase = 0
            · simp [WindowRecord.shadowRange, h0] at hb
            · simp only [WindowRecord.shadowRange, if_neg h0, List.mem_singleton] at hb; subst hb
              rw [hex]; intro l hl
              have := (hh l hl v hv).1
              simp only [State.shadowHolds, hr, Bool.and_eq_false_imp] at this
              simpa [lineIn] using this (by simp; exact h0)
      · rw [hw v (not_lt.1 hv)]; simp
  rw [hlog, hwin]
  simp only [State.linesFree, hci]
  constructor
  · rintro ⟨⟨a, b⟩, c⟩ l hl; exact ⟨a l hl, b l hl, c l hl⟩
  · intro a; exact ⟨⟨fun l hl => (a l hl).1, fun l hl => (a l hl).2.1⟩, fun l hl => (a l hl).2.2⟩

/-! ### Descriptors (R40) -/

/-- A setting that falls to its default, in the statements' words. -/
theorem setupInvalid_eq_fallen (w : Option WindowNo) (a : ByteAddr) (c : BitVec 32) :
    s.setupInvalid w a c = s.fallen w a c := by
  simp only [State.setupInvalid, State.fallen, State.setPartFlag, PartFlag.mask, PartFlag.bit]
  try rfl

/-- An unused descriptor. -/
theorem descriptorUnused_iff (x : Line) : descriptorUnused x = true ↔ unusedDescriptor x := by
  have e : (byteAt x 12).getLsbD 0 = x.getLsbD 96 := by simp [byteAt]
  simp only [descriptorUnused, unusedDescriptor, e]
  simp

/-- A descriptor is parsed into the one record it describes. -/
theorem parseDescriptor_iff (x y : Line) (r : WindowRecord) : parseDescriptor x y = some r ↔ r.describedBy x y := by
  have e1 : (byteAt x 12).getLsbD 0 = x.getLsbD 96 := by simp [byteAt]
  have e2 : (byteAt x 12).getLsbD 1 = x.getLsbD 97 := by simp [byteAt]
  constructor
  · intro h
    simp only [parseDescriptor, Option.bind_eq_bind, Option.bind_eq_some_iff, Option.some.injEq, pure] at h
    obtain ⟨f, h1, fm, h2, c, h3, ra, h4, cm, h5, ia, h6, ca, h7, rfl⟩ := h
    refine ⟨rfl, rfl, rfl, e1, e2, ?_, ?_, ?_, ?_, ?_, rfl, rfl, ?_, ?_⟩
    · revert h1; simp only [WindowFunction.ofCode]; split_ifs <;> rintro ⟨⟩ <;> assumption
    · revert h2; simp only [Format.ofCode]; split_ifs <;> rintro ⟨⟩ <;> assumption
    · revert h3
      unfold checkOfCode
      by_cases g1 : byteAt x 13 = 0x00
      · simp only [g1, if_true]; rintro ⟨⟩; rfl
      · by_cases g2 : byteAt x 13 = 0x01
        · simp only [g2, if_true]; rintro ⟨⟩; rfl
        · simp only [g1, g2, if_false]; rintro ⟨⟩
    · revert h4; simp only [ReadAction.ofCode]; split_ifs <;> rintro ⟨⟩ <;> assumption
    · revert h5; simp only [CrossingMode.ofCode]; split_ifs <;> rintro ⟨⟩ <;> assumption
    · revert h6; simp only [windowActionOfCode, SweepAction.ofCode]; split_ifs <;> rintro ⟨⟩ <;> assumption
    · revert h7; simp only [windowActionOfCode, SweepAction.ofCode]; split_ifs <;> rintro ⟨⟩ <;> assumption
  · rintro ⟨h1, h2, h3, h4, h5, h6, h7, h8, h9, h10, h11, h12, h13, h14⟩
    have a1 : WindowFunction.ofCode (byteAt x 10) = some r.function := by rw [h6]; cases r.function <;> rfl
    have a2 : Format.ofCode (byteAt x 11) = some r.format := by rw [h7]; cases r.format <;> rfl
    have a3 : checkOfCode (byteAt x 13) = some r.check := by rw [h8]; cases r.check <;> rfl
    have a4 : ReadAction.ofCode (byteAt x 14) = some r.readAction := by rw [h9]; cases r.readAction <;> rfl
    have a5 : CrossingMode.ofCode (byteAt x 15) = some r.crossingMode := by rw [h10]; cases r.crossingMode <;> rfl
    have a6 : windowActionOfCode (byteAt y 12) = some r.intervalAction := by
      rw [h13]; rcases r.intervalAction with _ | _ | _ | _ <;> rfl
    have a7 : windowActionOfCode (byteAt y 13) = some r.chordAction := by
      rw [h14]; rcases r.chordAction with _ | _ | _ | _ <;> rfl
    simp only [parseDescriptor, a1, a2, a3, a4, a5, a6, a7, Option.bind_eq_bind, Option.bind_some, pure, e1, e2]
    rw [← h1, ← h2, ← h3, ← h4, ← h5, ← h11, ← h12]

/-! ### Tests in order (R41) -/

/-- The first test that holds is the head, or the head does not hold and it is the first of the rest. -/
theorem first_cons (c : BitVec 32) (p : Prop) (ts : OrderedTests) (code : BitVec 32) :
    OrderedTests.first ((c, p) :: ts) code ↔ (p ∧ code = c) ∨ (¬p ∧ OrderedTests.first ts code) := by
  constructor
  · rintro ⟨before, after, q, h1, h2, h3⟩
    cases before with
    | nil =>
      rw [List.nil_append, List.cons.injEq, Prod.mk.injEq] at h1
      obtain ⟨⟨e1, e2⟩, -⟩ := h1
      rw [e1, e2]; exact Or.inl ⟨h2, rfl⟩
    | cons t before =>
      rw [List.cons_append, List.cons.injEq] at h1
      obtain ⟨e1, e2⟩ := h1
      refine Or.inr ⟨?_, before, after, q, e2, h2, fun u hu => h3 u (by simp [hu])⟩
      have := h3 t (by simp)
      rwa [← e1] at this
  · rintro (⟨h1, rfl⟩ | ⟨h1, before, after, q, rfl, h2, h3⟩)
    · exact ⟨[], ts, p, rfl, h1, by simp⟩
    · refine ⟨(c, p) :: before, after, q, rfl, h2, ?_⟩
      intro t ht
      rcases List.mem_cons.1 ht with rfl | ht
      · exact h1
      · exact h3 t ht

/-- Of no tests none is the first that holds. -/
theorem first_nil (code : BitVec 32) : OrderedTests.first [] code ↔ False := by
  simp [OrderedTests.first]

/-- Tests in order pass when the head does not hold and the rest pass. -/
theorem pass_cons (c : BitVec 32) (p : Prop) (ts : OrderedTests) :
    OrderedTests.pass ((c, p) :: ts) ↔ ¬p ∧ OrderedTests.pass ts := by simp [OrderedTests.pass]

/-- The empty list of tests passes. -/
theorem pass_nil : OrderedTests.pass [] ↔ True := by simp [OrderedTests.pass]

/-- Six tests with the codes 3 to 8, asked in order. -/
theorem ordered_tests (a b c d e f : Prop) [Decidable a] [Decidable b] [Decidable c] [Decidable d] [Decidable e]
    [Decidable f] :
    let found : Option (BitVec 32) := if a then some 3 else if b then some 4 else if c then some 5
      else if d then some 6 else if e then some 7 else if f then some 8 else none
    (∀ code, found = some code ↔
      OrderedTests.first [(3, a), (4, b), (5, c), (6, d), (7, e), (8, f)] code) ∧
    (found = none ↔ OrderedTests.pass [(3, a), (4, b), (5, c), (6, d), (7, e), (8, f)]) := by
  intro found
  simp only [found, first_cons, first_nil, pass_cons, pass_nil]
  refine ⟨fun code => ?_, ?_⟩
  · have ee : ∀ k : BitVec 32, (some k = some code) ↔ (code = k) := fun k => by rw [Option.some.injEq, eq_comm]
    by_cases ha : a <;> by_cases hb : b <;> by_cases hc : c <;> by_cases hd : d <;> by_cases he : e <;>
      by_cases hf : f <;> simp only [ha, hb, hc, hd, he, hf, if_true, if_false, ee] <;> simp
  · by_cases ha : a <;> by_cases hb : b <;> by_cases hc : c <;> by_cases hd : d <;> by_cases he : e <;>
      by_cases hf : f <;> simp only [ha, hb, hc, hd, he, hf, if_true, if_false] <;> simp

/-- The first of tests 3 to 8 that holds for a record, judged while the valid windows all lie below `w`. -/
theorem recordFault_tests (w : WindowNo) (r : WindowRecord) (hw : ∀ v : WindowNo, w ≤ v → s.record v = none) :
    (∀ code, s.recordFault r = some code ↔ (s.windowTests w r).first code) ∧
    (s.recordFault r = none ↔ (s.windowTests w r).pass) := by
  have t5 : (!r.thresholdInRange) = true ↔ ¬(match r.function, r.format with
      | .difference, .u32 => 0 ≤ r.threshold.toInt
      | .difference, _ => 0 ≤ r.threshold.toInt ∧ r.threshold.toInt ≤ 32767
      | _, .u16 => r.threshold.toNat ≤ 65535
      | _, .s16 => -32768 ≤ r.threshold.toInt ∧ r.threshold.toInt ≤ 32767
      | _, .u32 => True) := by
    have := BitVec.toInt_lt (x := r.threshold)
    unfold WindowRecord.thresholdInRange WindowRecord.thresholdValue
    cases r.function <;> cases r.format <;> simp <;> omega
  have t3 : (r.length = 0 ∨ Config.maxWindowLength < r.length ∨ (!rangeFits r.range) = true) ↔
      (r.length = 0 ∨ 4096 < r.length ∨ 2 ^ 28 < r.base.toNat + r.length) := by
    have : (!rangeFits r.range) = true ↔ 2 ^ 28 < r.base.toNat + r.length := by
      unfold rangeFits; rw [Bool.not_eq_true', decide_eq_false_iff_not]; exact Nat.not_le
    rw [this]
  have t8 : (r.shadowBase = 0
      ∧ ((r.intervalAction.any fun a => a != .clear) || (r.chordAction.any fun a => a != .clear)) = true) ↔
      (r.shadowBase = 0 ∧ ¬((r.intervalAction = none ∨ r.intervalAction = some .clear)
      ∧ (r.chordAction = none ∨ r.chordAction = some .clear))) := by
    rcases r.intervalAction with _ | _ | _ | _ <;> rcases r.chordAction with _ | _ | _ | _ <;> simp
  have ch := ordered_tests (r.length = 0 ∨ Config.maxWindowLength < r.length ∨ (!rangeFits r.range) = true)
    (r.function = .extreme ∧ r.format = .u32) ((!r.thresholdInRange) = true)
    (s.countedRanges.any (rangesOverlap r.range) = true)
    (r.shadowRange.any (fun q => !rangeFits q || (r.range :: s.countedRanges).any (rangesOverlap q)) = true)
    (r.shadowBase = 0 ∧ ((r.intervalAction.any fun a => a != .clear) || (r.chordAction.any fun a => a != .clear)) = true)
  have ch1 : ∀ code, s.recordFault r = some code ↔ _ := ch.1
  have ch2 : s.recordFault r = none ↔ _ := ch.2
  by_cases h3 : r.length = 0 ∨ 4096 < r.length ∨ 2 ^ 28 < r.base.toNat + r.length
  · have h3' := t3.2 h3
    constructor
    · intro code
      rw [ch1 code]
      simp only [State.windowTests, first_cons, h3, h3', not_true_eq_false, false_and, or_false]
    · rw [ch2]
      simp only [State.windowTests, pass_cons, h3, h3', not_true_eq_false, false_and]
  · have hfit : r.base.toNat + r.length ≤ 2 ^ 28 := by omega
    have t6 : s.countedRanges.any (rangesOverlap r.range) = true ↔ ¬s.linesFree w r.base r.length := by
      rw [← linesFree_iff s w _ _ hfit hw]; simp [WindowRecord.range]
    have t7 : r.shadowRange.any (fun q => !rangeFits q || (r.range :: s.countedRanges).any (rangesOverlap q)) = true ↔
       (r.shadowBase ≠ 0 ∧ (2 ^ 28 < r.shadowBase.toNat + (r.length + 1)
      ∨ ¬s.linesFree w r.shadowBase (r.length + 1)
      ∨ ∃ l, lineIn r.shadowBase (r.length + 1) l ∧ lineIn r.base r.length l)) := by
      unfold WindowRecord.shadowRange
      split
      · rename_i h0; simp only [h0]; simp
      · rename_i h0
        by_cases hf : r.shadowBase.toNat + (r.length + 1) ≤ 2 ^ 28
        · have a := linesFree_iff s w r.shadowBase (r.length + 1) hf hw
          have b := overlap_lines r.shadowBase (r.length + 1) r.range hf
          have c : ¬(2 ^ 28 < r.shadowBase.toNat + (r.length + 1)) := by omega
          simp only [List.any_cons, List.any_nil, Bool.or_false, Bool.or_eq_true, b, rangeFits]
          rw [← a]
          simp only [c, h0, hf, Bool.not_eq_false, ne_eq, not_false_eq_true, true_and, decide_true, Bool.not_true,
            false_or, Bool.false_eq_true]
          rw [or_comm]
          apply or_congr Iff.rfl
          apply exists_congr; intro l; apply and_congr Iff.rfl
          simp [lineIn, WindowRecord.range]
        · have c : (2 ^ 28 < r.shadowBase.toNat + (r.length + 1)) := by omega
          simp only [c, true_or, and_true, List.any_cons, rangeFits, hf, decide_false]; simp; exact h0
    constructor
    · intro code
      rw [ch1 code]
      simp only [State.windowTests, first_cons, first_nil, t3, t5, t6, t7, t8]; try exact Iff.rfl
    · rw [ch2]
      simp only [State.windowTests, pass_cons, pass_nil, t3, t5, t6, t7, t8]; try exact Iff.rfl

/-! ### Bindings (R129) -/

/-- A field of a field. -/
theorem extract_extract (l : Line) (a b c d : Nat) (h : c + d ≤ b) :
    (l.extractLsb' a b).extractLsb' c d = l.extractLsb' (a + c) d := by
  apply BitVec.eq_of_getLsbD_eq
  intro i hi
  simp only [BitVec.getLsbD_extractLsb']
  have h2 : c + i < b := by omega
  simp [hi, h2, Nat.add_assoc]

/-- The fields of a binding, each at its bits of the line. -/
theorem parse_binding (l : Line) (n : InputNo) : BindingFields.parse l (8 * (n.val % 2)) =
    { enable := l.getLsbD (64 * (n.val % 2))
      edge := Edge.ofCode (l.extractLsb' (64 * (n.val % 2) + 1) 2)
      debounce := l.extractLsb' (64 * (n.val % 2) + 4) 3
      lane := l.extractLsb' (64 * (n.val % 2) + 8) 3
      increment := l.extractLsb' (64 * (n.val % 2) + 16) 8
      target := l.extractLsb' (64 * (n.val % 2) + 36) 28 } := by
  have e0 : 8 * (8 * (n.val % 2)) = 64 * (n.val % 2) := by omega
  have e1 : 8 * (8 * (n.val % 2) + 1) = 64 * (n.val % 2) + 8 := by omega
  have e2 : 8 * (8 * (n.val % 2) + 2) = 64 * (n.val % 2) + 16 := by omega
  have e4 : 8 * (8 * (n.val % 2) + 4) = 64 * (n.val % 2) + 32 := by omega
  have h0 : (l.extractLsb' (64 * (n.val % 2)) 8).getLsbD 0 = l.getLsbD (64 * (n.val % 2)) := by
    rw [BitVec.getLsbD_extractLsb']; simp
  simp only [BindingFields.parse, byteAt, fieldAt, lineOf, e0, e1, e2, e4, h0]
  rw [extract_extract _ _ _ 1 2 (by omega), extract_extract _ _ _ 4 3 (by omega),
    extract_extract _ _ _ 0 3 (by omega), extract_extract _ _ _ 4 28 (by omega)]

/-- The first of tests 2 to 6 of Table 8-4 that holds for a binding, or the one binding its line describes. -/
theorem bindingOf_tests (n : InputNo) (l : Line) :
    let judged := s.bindingOf (BindingFields.parse l (8 * (n.val % 2)))
    (∀ code, (s.bindingTests n l).first code → judged = .error code) ∧
    ((s.bindingTests n l).pass → ∀ b : Binding,
      judged = .ok b ↔ (b.describedBy n l ∧ s.windowOf b.target = some b.window)) := by
  intro judged
  simp only [judged, parse_binding]
  simp only [State.bindingTests, first_cons, first_nil, pass_cons, pass_nil]
  generalize hE : l.extractLsb' (64 * (n.val % 2) + 1) 2 = E
  generalize hI : l.extractLsb' (64 * (n.val % 2) + 16) 8 = I
  generalize hT : l.extractLsb' (64 * (n.val % 2) + 36) 28 = T
  generalize hL : l.extractLsb' (64 * (n.val % 2) + 8) 3 = L
  have hedge : (E = 3 ∧ Edge.ofCode E = none) ∨ (E ≠ 3 ∧ ∃ e, Edge.ofCode E = some e ∧ ∀ e',
      (E = (match e' with
        | .rising => 0
        | .falling => 1
        | .both => 2) ↔ e' = e)) := by
    clear hE
    revert E; intro E
    have : E = 0 ∨ E = 1 ∨ E = 2 ∨ E = 3 := by revert E; decide
    rcases this with rfl | rfl | rfl | rfl
    · right; refine ⟨by decide, _, rfl, ?_⟩; intro e'; cases e' <;> simp
    · right; refine ⟨by decide, _, rfl, ?_⟩; intro e'; cases e' <;> simp
    · right; refine ⟨by decide, _, rfl, ?_⟩; intro e'; cases e' <;> simp
    · left; exact ⟨rfl, rfl⟩
  rcases hedge with ⟨h1, h2⟩ | ⟨h1, e, h2, h2'⟩
  · constructor
    · rintro code (⟨-, rfl⟩ | ⟨h, -⟩)
      · simp only [State.bindingOf, h2]
      · exact absurd h1 h
    · intro hc; exact absurd h1 hc.1
  · by_cases hi : I = 0
    · constructor
      · rintro code (⟨h, -⟩ | ⟨-, ⟨-, rfl⟩ | ⟨h, -⟩⟩)
        · exact absurd h h1
        · simp only [State.bindingOf, h2, hi, if_true]
        · exact absurd hi h
      · intro hc; exact absurd hi hc.2.1
    · cases hw : s.windowOf T with
      | none =>
        constructor
        · rintro code (⟨h, -⟩ | ⟨-, ⟨h, -⟩ | ⟨-, ⟨-, rfl⟩ | ⟨h, -⟩⟩⟩)
          · exact absurd h h1
          · exact absurd h hi
          · simp only [State.bindingOf, h2, hi, if_false, hw]
          · exact absurd rfl h
        · intro hc; exact absurd rfl hc.2.2.1
      | some w =>
        obtain ⟨r, hr, -⟩ := windowOf_some (s := s) hw
        have hr := ((inService_iff s w r).1 hr).1
        have q5 : (∃ w' r', some w = some w' ∧ s.record w' = some r' ∧ r'.function ≠ .accumulate) ↔
            r.function ≠ .accumulate := by
          constructor
          · rintro ⟨w', r', ⟨⟩, h, h'⟩; rw [hr] at h; cases h; exact h'
          · intro h; exact ⟨w, r, rfl, hr, h⟩
        have q6 : (∃ w' r', some w = some w' ∧ s.record w' = some r' ∧ r'.dataLanes ≤ L.toNat) ↔
            r.dataLanes ≤ L.toNat := by
          constructor
          · rintro ⟨w', r', ⟨⟩, h, h'⟩; rw [hr] at h; cases h; exact h'
          · intro h; exact ⟨w, r, rfl, hr, h⟩
        simp only [q5, q6]
        simp only [State.bindingOf, h2, hi, if_false, hw, hr]
        constructor
        · rintro code (⟨h, -⟩ | ⟨-, ⟨h, -⟩ | ⟨-, ⟨h, -⟩ | ⟨-, ⟨h5, rfl⟩ | ⟨h5, ⟨h6, rfl⟩ | ⟨-, h⟩⟩⟩⟩⟩)
          · exact absurd h h1
          · exact h.elim
          · cases h
          · exact if_pos h5
          · rw [if_neg h5, if_pos h6]
          · exact h.elim
        · rintro ⟨-, -, -, h5, h6, -⟩ b
          simp only [h5, h6, if_false, Except.ok.injEq]
          unfold Binding.describedBy
          simp only [hE, hI, hT, hL]
          constructor
          · rintro rfl; exact ⟨⟨(h2' e).2 rfl, rfl, rfl, rfl, rfl⟩, hw⟩
          · rintro ⟨⟨a, b1, c, d, f⟩, g⟩
            have := (h2' _).1 a
            cases b; simp_all

end Sys2Proof.Machine
end

