-- ==== Sys2Proof/Laws/Lanes.lean ====
section
/-!
SUPPORT. Reading a line after a field or a lane of it was written, and the ranges of lane values.
-/

namespace Sys2Proof.Machine

/-! ### Fields -/

/-- A bit of a line after `w` bits from `pos` on were replaced. -/
theorem getLsbD_putBits {w : Nat} (pos : Nat) (v : BitVec w) (l : Line) (i : Nat) (h : i < 128) :
    (putBits pos v l).getLsbD i = if pos ≤ i ∧ i < pos + w then v.getLsbD (i - pos) else l.getLsbD i := by
  simp only [putBits, BitVec.getLsbD_or, BitVec.getLsbD_and, BitVec.getLsbD_not, BitVec.getLsbD_shiftLeft,
    BitVec.getLsbD_setWidth, BitVec.getLsbD_allOnes, h, decide_true, Bool.true_and]
  by_cases h1 : i < pos
  · simp [h1, Nat.not_le.2 h1]
  · by_cases h2 : i < pos + w
    · have h3 : i - pos < w := by omega
      have h4 : i - pos < 128 := by omega
      simp [h1, Nat.not_lt.1 h1, h2, h3, h4]
    · have h3 : ¬(i - pos < w) := by omega
      simp [h1, h2, h3, BitVec.getLsbD_of_ge v (i - pos) (by omega)]

/-- A field that lies wholly outside the replaced bits is unchanged. -/
theorem extractLsb'_putBits_of_disjoint {w : Nat} (pos : Nat) (v : BitVec w) (l : Line) (start len : Nat)
    (h : start + len ≤ pos ∨ pos + w ≤ start) (hl : start + len ≤ 128) :
    (putBits pos v l).extractLsb' start len = l.extractLsb' start len := by
  apply BitVec.eq_of_getLsbD_eq
  intro i hi
  rw [BitVec.getLsbD_extractLsb', BitVec.getLsbD_extractLsb', getLsbD_putBits _ _ _ _ (by omega), if_neg (by omega)]

/-- The replaced field itself. -/
theorem extractLsb'_putBits_self {w : Nat} (pos : Nat) (v : BitVec w) (l : Line) (h : pos + w ≤ 128) :
    (putBits pos v l).extractLsb' pos w = v := by
  apply BitVec.eq_of_getLsbD_eq
  intro i hi
  rw [BitVec.getLsbD_extractLsb', getLsbD_putBits _ _ _ _ (by omega), if_pos (by omega)]
  simp [hi]

/-! ### Lanes -/

theorem Format.lanes_width (f : Format) : f.lanes * f.width = 128 := by cases f <;> rfl

theorem Format.lane_fits (f : Format) {i : Nat} (h : i < f.lanes) : i * f.width + f.width ≤ 128 := by
  have := Nat.mul_le_mul_right f.width (Nat.succ_le_of_lt h)
  rw [f.lanes_width, Nat.succ_mul] at this
  exact this

/-- A lane that was written. -/
theorem laneBits_writeLane_self (w i : Nat) (v : Int) (l : Line) (h : i * w + w ≤ 128) :
    laneBits w i (writeLane w i v l) = BitVec.ofInt w v := extractLsb'_putBits_self _ _ _ h

/-- Another lane of the line. -/
theorem laneBits_writeLane_ne (w i j : Nat) (v : Int) (l : Line) (hij : i ≠ j) (h : j * w + w ≤ 128) :
    laneBits w j (writeLane w i v l) = laneBits w j l := by
  apply extractLsb'_putBits_of_disjoint _ _ _ _ _ _ h
  rcases Nat.lt_or_gt_of_ne hij with h1 | h1
  · right
    have := Nat.mul_le_mul_right w (Nat.succ_le_of_lt h1)
    rw [Nat.succ_mul] at this; exact this
  · left
    have := Nat.mul_le_mul_right w (Nat.succ_le_of_lt h1)
    rw [Nat.succ_mul] at this; exact this

theorem readLane_writeLane_ne (sg : Bool) (w i j : Nat) (v : Int) (l : Line) (hij : i ≠ j) (h : j * w + w ≤ 128) :
    readLane sg w j (writeLane w i v l) = readLane sg w j l := by
  simp only [readLane, laneBits_writeLane_ne w i j v l hij h]

/-- The number of a pattern written from a number in the lane's range. -/
theorem patternValue_ofInt (sg : Bool) (w : Nat) (v : Int) (hw : 0 < w) (h1 : laneMin sg w ≤ v)
    (h2 : v ≤ laneMax sg w) : patternValue sg (BitVec.ofInt w v) = v := by
  have hp : (2 : Int) ^ w = 2 * 2 ^ (w - 1) := by rw [← pow_succ', Nat.sub_add_cancel hw]
  have hpos : (0 : Int) < 2 ^ (w - 1) := by positivity
  cases sg with
  | true =>
    simp only [laneMin, laneMax, if_true] at h1 h2
    push_cast at h1 h2
    simp only [patternValue, if_true, BitVec.toInt_ofInt]
    apply Int.bmod_eq_of_le <;> (push_cast; rw [hp]; omega)
  | false =>
    simp only [laneMin, laneMax, Bool.false_eq_true, if_false] at h1 h2
    push_cast at h1 h2
    simp only [patternValue, Bool.false_eq_true, if_false, BitVec.toNat_ofInt]
    rw [Int.toNat_of_nonneg (Int.emod_nonneg _ (by positivity))]
    push_cast
    exact Int.emod_eq_of_lt h1 (by omega)

/-- A lane that was written with a number in its range. -/
theorem readLane_writeLane_self (sg : Bool) (w i : Nat) (v : Int) (l : Line) (hw : 0 < w) (h : i * w + w ≤ 128)
    (h1 : laneMin sg w ≤ v) (h2 : v ≤ laneMax sg w) : readLane sg w i (writeLane w i v l) = v := by
  rw [readLane, laneBits_writeLane_self w i v l h, patternValue_ofInt sg w v hw h1 h2]

theorem laneMin_le_laneMax (sg : Bool) (w : Nat) : laneMin sg w ≤ laneMax sg w := by
  have h1 : (1 : Int) ≤ ((2 ^ (w - 1) : Nat) : Int) := by exact_mod_cast Nat.one_le_two_pow
  have h2 : (1 : Int) ≤ ((2 ^ w : Nat) : Int) := by exact_mod_cast Nat.one_le_two_pow
  unfold laneMin laneMax
  cases sg
  · simp only [Bool.false_eq_true, if_false]; omega
  · simp only [if_true]; omega

theorem laneMin_le_saturate (sg : Bool) (w : Nat) (v : Int) : laneMin sg w ≤ saturate sg w v := le_max_left _ _

theorem saturate_le_laneMax (sg : Bool) (w : Nat) (v : Int) : saturate sg w v ≤ laneMax sg w :=
  max_le (laneMin_le_laneMax sg w) (min_le_left _ _)

/-- Every lane's value lies in the lane's range. -/
theorem patternValue_range (sg : Bool) {w : Nat} (v : BitVec w) :
    laneMin sg w ≤ patternValue sg v ∧ patternValue sg v ≤ laneMax sg w := by
  unfold laneMin laneMax patternValue
  cases sg with
  | true =>
    have h1 := BitVec.le_toInt v
    have h2 := BitVec.toInt_lt (x := v)
    simp only [if_true]; push_cast; omega
  | false =>
    have h2 := v.isLt
    simp only [Bool.false_eq_true, if_false]; omega

/-- A lane's pattern, written back from its number. -/
theorem ofInt_patternValue (sg : Bool) {w : Nat} (v : BitVec w) : BitVec.ofInt w (patternValue sg v) = v := by
  cases sg with
  | true => simp [patternValue]
  | false => simp [patternValue]

/-! ### Several lanes -/

/-- The lanes a fold of lane writes leaves: the written lanes hold what was written last, the others are unchanged. -/
theorem laneBits_foldl_writeLane (w : Nat) (f : Nat → Int) (is : List Nat) (l : Line) (j : Nat)
    (h : j * w + w ≤ 128) :
    laneBits w j (is.foldl (fun acc i => writeLane w i (f i) acc) l)
      = if j ∈ is then BitVec.ofInt w (f j) else laneBits w j l := by
  induction is generalizing l with
  | nil => simp
  | cons i is ih =>
    rw [List.foldl_cons, ih]
    by_cases hj : j ∈ is
    · simp [hj]
    · by_cases hi : j = i
      · subst hi; simp [hj, laneBits_writeLane_self w j _ l h]
      · simp [hj, hi, laneBits_writeLane_ne w i j _ l (Ne.symm hi) h]

theorem mem_enabledLanes (f : Format) (lanes : BitVec 8) (i : Nat) :
    i ∈ enabledLanes f lanes ↔ i < f.lanes ∧ lanes.getLsbD i = true := by
  simp [enabledLanes, List.mem_filter]

/-- What ACCUMULATE and WEIGHTED leave in a lane. -/
theorem laneBits_addLanes (f : Format) (factor : Nat → Int) (lanes : BitVec 8) (data copy : Line) (j : Nat)
    (h : j < f.lanes) : laneBits f.width j (addLanes f factor lanes data copy) =
      if lanes.getLsbD j then BitVec.ofInt f.width (saturate f.signed f.width
        (readLane f.signed f.width j copy + factor j * readLane f.signed f.width j data))
      else laneBits f.width j copy := by
  rw [addLanes, laneBits_foldl_writeLane _ _ _ _ _ (f.lane_fits h)]
  simp [mem_enabledLanes, h]

end Sys2Proof.Machine
end

