-- ==== Sys2Proof/Tests/Slice0.lean ====
section
/-!
SUPPORT. Tests of the model: ill-formed operands are refused by the check, each command does in one step what the manual's
worked examples show, and every statement's hypotheses are met by a state. Lanes and bytes are written from lane 0 and
byte 0 up.
-/

namespace Sys2Proof.Tests

open Sys2Proof.Machine

set_option Elab.async false

/-! ### Small states -/

/-- A line from its bytes, byte 0 first. -/
def bytes (l : List Byte) : Line := l.foldr (fun b acc => (acc <<< 8) ||| b.setWidth 128) 0

/-- A line from its 16-bit lanes, lane 0 first. -/
def lanes (l : List (BitVec 16)) : Line := l.foldr (fun b acc => (acc <<< 16) ||| b.setWidth 128) 0

/-- The state a command leads to. -/
def after (c : Instr) (s : State) : State :=
  match exec c s with
  | .next t => t
  | _ => s

/-- An ACCUMULATE window of U16 lanes: lines 4000_0000h to 4000_0030h, shadow at 4800_0000h. -/
def win : WindowRecord where
  enable := true
  function := .accumulate
  format := .u16
  check := false
  readAction := .clear
  base := 0x4000000
  length := 4
  shadowBase := 0x4800000
  crossingMode := .each
  threshold := 100
  weights := 0
  clearAtArm := false
  intervalAction := some .copy
  chordAction := some .clear

/-- The same with check on, at 4100_0000h, without actions. -/
def winC : WindowRecord :=
  { win with check := true, base := 0x4100000, shadowBase := 0x4810000, intervalAction := none, chordAction := none }

/-- Out of BOOT, in PASS. -/
def pass : State := { State.reset with bootStage := .formed, partState := .pass, logStyle := .wrap, logBase := 0x2000100 }

/-- In ACTIVE with windows 0 and 1 in service and window 2 valid but disabled. -/
def act : State :=
  { pass with
    partState := .active
    wasActive := true
    live := ⟨0, 100, 0⟩
    windows := ((pass.windows.set 0 ⟨some win, true, 0⟩).set 1 ⟨some winC, false, 0⟩).set 2
      ⟨some { win with enable := false, base := 0x4200000, shadowBase := 0 }, false, 0⟩ }

/-- A binding of input 0: rising edges add 3 to lane 1 of line 4000_0010h. -/
def bind0 : Binding := ⟨.rising, 0, 0x4000001, 1, 3, 0⟩

/-- ACTIVE with input 0 bound, and the levels of the last sample. -/
def ev (v : BitVec 4) (i : InputState) : State :=
  { act with bindings := act.bindings.set 0 (some bind0), levels := some v, inputs := act.inputs.set 0 i
             chord := ⟨3, 1000, 1⟩ }

/-- ACTIVE with tag 0 outstanding for the given origin. -/
def out (s : State) (o : Origin) (isWrite : Bool) (l : LineAddr) : State :=
  { s with tags := s.tags.set 0 (.outstanding ⟨o, isWrite, l, 0, false⟩) }

/-- ACTIVE with general entry 0 as given. -/
def ent (e : Entry) : State := { act with entries := act.entries.set 0 e }

/-- A sweep of window 0 at its first line. -/
def sw : Sweep where
  phase := .lines
  window := 0
  action := .copyClear
  source := .command
  sequence := 1
  startTick := 7
  nextIndex := 0
  inFlight := .claimWaiting
  copied := 0
  failed := 0
  headerFailed := false
  waiting := []
  issued := []
  endHeader := .notProduced
  abandoning := false

/-- ACTIVE with the given sweep. -/
def swept (x : Sweep) : State := { act with engine := some x }

/-- A command write naming window `w`, action `a`, argument `l`. -/
def cw (w a : Byte) (l : ByteAddr) : CommandWrite := ⟨w, a, 0x5A, l, 0, 0⟩

/-! ### Well-formedness refuses what a row does not stand for -/

theorem test_wf_liveSettingLine : (Instr.liveSettingWrite 0 3 0xFFFF 0).wf = false ∧
    (Instr.liveSettingWrite 0 7 0xFFFF 0).wf = false ∧ (Instr.liveSettingWrite 0 4 0xFFFF 0).wf = true := by decide

theorem test_wf_controlAreaLine : (Instr.controlAreaLineWrite 0 2 0xFFFF 0).wf = false ∧
    (Instr.controlAreaLineWrite 0 6 0xFFFF 0).wf = false ∧ (Instr.controlAreaLineWrite 0 41 0xFFFF 0).wf = true := by
  decide

theorem test_wf_badCommandCode : (Instr.badCommand 0 1 (cw 0 0 0)).wf = false ∧
    (Instr.badCommand 0 6 (cw 0 0 0)).wf = false ∧ (Instr.badCommand 0 7 (cw 0 0 0)).wf = true := by decide

theorem test_decodeTableWord : decodeTableWord 8 0 = none ∧ State.reset.withFetchWord 8 0 = State.reset :=
  ⟨rfl, rfl⟩

/-! ### Resets and part states -/

theorem test_powerOnReset : (after .powerOnReset act).partState = .boot ∧ (after .powerOnReset act).wasActive = false ∧
    (after .powerOnReset { act with responses := [⟨5, .okay, none⟩] }).responses = [⟨5, .okay, none⟩] := by decide

theorem test_warmReset : (after .warmReset act).wasActive = true ∧ (after .warmReset act).resetKind = .warm ∧
    (after .warmReset act).windows = State.reset.windows := by decide

theorem test_resetRelease : (after (.resetRelease 5) State.reset).controlBase = 0xA000000#28 ∧
    (List.finRange 42).filter (fun k => (after (.resetRelease 5) State.reset).setup[k].waits) = [0, 2, 3] := by decide

/-- BOOT with the reads of lines 2 and 3 ended. -/
def reading (x y : SetupSlot) : State :=
  { State.reset with bootStage := .reading, setupSel := 1, setup := (State.reset.setup.set 2 x).set 3 y }

theorem test_bootSettingsApplied :
    (after .bootSettingsApplied (reading (.taken (bytes [1, 2, 1, 1, 1, 0, 0xE8, 3, 30])) .failed)).boot
      = ⟨true, .resume, true, .b, .b, 1000, 30⟩ := by decide

theorem test_bootSettingsApplied_faults :
    let t := after .bootSettingsApplied (reading (.taken (bytes [0, 3, 0, 0, 0, 0, 0, 0, 0])) .failed)
    t.boot.startMode = .wait ∧ t.boot.divider = 1000 ∧ t.boot.responseLimit = 0 ∧ t.flags.part = 1 ∧
      t.logQueue.map (fun e => e.incident.detail) = [2, 3, 1] := by decide

/-- BOOT with the boot settings applied and the read of line 0 ended. -/
def applied (k : ResetKind) (x : SetupSlot) : State :=
  { State.reset with
    bootStage := .applied, resetKind := k, boot := { BootSettings.reset with keepStatus := true }
    setup := State.reset.setup.set 0 x }

theorem test_statusCopyFormed :
    let t := after .statusCopyFormed (applied .warm (.taken (bytes [1, 0, 2, 0, 0, 0xF8, 9, 9, 9, 40, 7, 0])))
    t.flags = ⟨1, 2, 0x1800⟩ ∧ t.logNext = 7 ∧ t.logHeld = 32 ∧ t.statusEntry = .wbWait none := by decide

theorem test_statusCopyFormed_powerOn :
    let t := after .statusCopyFormed (applied .powerOn (.taken (bytes [1, 0, 2, 0, 0, 0xF8, 9, 9, 9, 40, 7, 0])))
    t.flags = ⟨0, 0, 0⟩ ∧ t.logNext = 0 ∧ t.logHeld = 0 ∧ t.command.state = .idle := by decide

/-- The last step of BOOT under a start mode. -/
def booted (m : StartMode) (was : Bool) : State :=
  { pass with
    partState := .boot, statusWritten := true, commandWritten := true, wasActive := was
    boot := { BootSettings.reset with startMode := m } }

theorem test_bootEnd : (after .bootEnd (booted .wait true)).partState = .pass ∧
    (after .bootEnd (booted .armAtBoot false)).partState = .loading ∧
    (after .bootEnd (booted .resume true)).partState = .loading ∧
    (after .bootEnd (booted .resume false)).partState = .pass := by decide

/-- LOADING with every read ended: window 0 described by two lines, nothing else set. -/
def loaded (first second : Line) : State :=
  { pass with
    partState := .loading
    setup := ((Vector.replicate 42 (.taken 0)).set 10 (.taken first)).set 11 (.taken second) }

/-- The descriptor of `win`. -/
def winFirst : Line := bytes [0, 0, 0, 0x40, 0, 0, 0, 0x48, 4, 0, 0, 0, 1, 0, 1, 2]
def winSecond : Line := bytes [100, 0, 0, 0, 0, 0, 0, 0, 0, 0, 0, 0, 1, 3]

theorem test_loadingComplete :
    let t := after .loadingComplete (loaded winFirst winSecond)
    t.partState = .active ∧ t.record 0 = some win ∧ t.record 1 = none ∧ t.wasActive = true ∧ t.flags.part = 0 ∧
      t.command.result = .ok := by decide +kernel

theorem test_loadingComplete_invalid :
    let t := after .loadingComplete (loaded (bytes [0, 0, 0, 0x40, 0, 0, 0, 0x48, 4, 0, 4, 0, 1]) winSecond)
    t.record 0 = none ∧ t.flags.part = 1 ∧ t.command.result = .setupWarn ∧
      t.logQueue.map (fun e => (e.incident.kind, e.incident.detail)) = [(.setupInvalid, 2), (.state, 3)] := by
  decide +kernel

theorem test_drainingEnd :
    let t := after .drainingEnd { act with partState := .draining, suspects := [5] }
    t.partState = .pass ∧ t.record 0 = none ∧ t.suspects = [] ∧ t.wasActive = false ∧ t.command.result = .ok := by decide

theorem test_drainingEnd_waits :
    (after .drainingEnd { swept sw with partState := .draining }).partState = .draining ∧
    (after .drainingEnd { ent (.wbWait ⟨0x4000000, 0⟩ 0 none false) with partState := .draining }).partState = .draining := by
  decide

/-! ### Time and the event inputs -/

theorem test_tickIncrement :
    let s := out { act with tick := 50, intervals := act.intervals.set 3 1 } (.log 0) true 9
    let t := after (.tickIncrement 2) s
    t.tick = 51 ∧ t.intervals[3] = 0 ∧ t.intervalDue = 8 ∧ t.levels = some 2 ∧
      (after (.requestExpiry 0) t).tags[0] = .retired := by decide +kernel

theorem test_tickIncrement_debounce :
    (after (.tickIncrement 1) (ev 0 .reset)).inputs[0].debounceCount = 1 ∧
    (after (.tickIncrement 0) (ev 0 ⟨1, 0, .inactive, 0⟩)).levels = some 1 ∧
    (after (.tickIncrement 1) (ev 1 ⟨0, 0, .pressed, 98⟩)).inputs[0].stuckTimer = 99 := by decide +kernel

theorem test_acceptedChange :
    let t := after (.acceptedChange 0) (ev 0 ⟨1, 14, .inactive, 5⟩)
    t.levels = some 1 ∧ t.inputs[0] = ⟨0, 15, .pressed, 0⟩ ∧ t.eventClaim = some 0 := by decide +kernel

theorem test_acceptedChange_lost :
    let t := after (.acceptedChange 0) (ev 0 ⟨1, 15, .inactive, 5⟩)
    t.inputs[0].pending = 15 ∧ t.flags.part = 0x20 ∧
      t.logQueue.map (fun e => (e.incident.kind, e.incident.addr, e.incident.detail)) = [(.eventLost, 0x40000010, 3)] := by
  decide +kernel

theorem test_eventStuck :
    let t := after (.eventStuck 0) (ev 1 ⟨0, 0, .pressed, 100⟩)
    t.inputs[0].stuck = .stuck ∧ t.flags.part = 0x40 ∧
      (after (.eventStuck 0) (ev 1 ⟨0, 0, .pressed, 99⟩)).inputs[0].stuck = .pressed := by decide +kernel

theorem test_chordFires :
    let t := after .chordFires { ev 3 .reset with chordTimer := 1000 }
    t.chordFired = true ∧ t.sweepQueue = [⟨0, .clear, .chord⟩] ∧
      (after .chordFires { ev 3 .reset with chordTimer := 999 }).sweepQueue = [] := by decide +kernel

theorem test_intervalExpiry :
    let t := after (.intervalExpiry 0) { act with intervalDue := 3 }
    t.intervals[0] = 100 ∧ t.intervalDue = 2 ∧ t.sweepQueue = [⟨0, .copy, .interval⟩] ∧
      (after (.intervalExpiry 1) { act with intervalDue := 3 }).intervalDue = 3 := by decide +kernel

theorem test_requestExpiry :
    let s := { act with
      tags := act.tags.set 0 (.outstanding ⟨.pass 9, false, 0x5000000, 0, true⟩), outstanding := [9, 4] }
    let t := after (.requestExpiry 0) s
    t.tags[0] = .retired ∧ t.responses = [⟨9, .fault, none⟩] ∧ t.outstanding = [4] ∧ t.flags.part = 8 := by
  decide +kernel

theorem test_emptyQueue_cycle :
    let t := { pass with cycles := 998 }.passCycle
    t.cycles = 999 ∧ t.tick = 0 ∧ t.passCycle.cycles = 0 ∧ t.passCycle.tick = 1 := by decide +kernel

/-! ### Upstream requests -/

theorem test_passThroughRequest :
    let t := after (.passThroughRequest ⟨9, 0x50000007, .read⟩) act
    t.passQueue = [⟨9, 0x5000000, .read⟩] ∧ t.outstanding = [9] ∧ t.responses = [] := by decide +kernel

theorem test_passThroughRequest_tagInUse :
    let t := after (.passThroughRequest ⟨9, 0x50000007, .read⟩) { act with outstanding := [9] }
    t.passQueue = [] ∧ t.responses = [⟨9, .refused, none⟩] ∧ t.flags.part = 0x1000 := by decide +kernel

theorem test_windowWrite_opens :
    let t := after (.windowWrite 1 0x40000010 0x000C (lanes [0, 7])) act
    t.responses = [⟨1, .okay, none⟩] ∧
      t.entries[0] = .fetchWait ⟨0x4000001, 0⟩ [.update .up (lanes [0, 7]) 2] := by decide +kernel

theorem test_windowWrite_refused :
    (after (.windowWrite 1 0x40000010 0x0001 0) act).logQueue.map (fun e => e.incident.detail) = [4] ∧
    (after (.windowWrite 1 0x41000010 0xC000 0) act).logQueue.map (fun e => e.incident.detail) = [5] ∧
    (after (.windowWrite 1 0x41000010 0x0003 0) { act with suspects := [0x4100001] }).logQueue.map
      (fun e => e.incident.detail) = [7] := by decide +kernel

theorem test_windowRead_clears :
    let t := after (.windowRead 2 0x40000000) (ent (.wbWait ⟨0x4000000, 0⟩ (lanes [5, 6]) none false))
    t.responses = [⟨2, .okay, some (lanes [5, 6])⟩] ∧ t.entries[0] = .wbWait ⟨0x4000000, 0⟩ 0 none false := by
  decide +kernel

theorem test_windowRead_suspect :
    let t := after (.windowRead 2 0x41000000) { act with suspects := [0x4100000] }
    t.responses = [⟨2, .fault, none⟩] ∧ t.flags.part = 0 ∧ t.entries = act.entries := by decide +kernel

theorem test_statusLineRead :
    let t := after (.statusLineRead 3) { act with flags := ⟨1, 2, 0x1800⟩, tick := 7, logNext := 9, logHeld := 4 }
    t.flags = ⟨0, 0, 0⟩ ∧ t.responses =
      [⟨3, .okay, some (bytes [1, 0, 2, 0, 0, 0x18, 3, 0, 0, 4, 9, 0, 7, 0, 0, 0])⟩] := by decide +kernel

theorem test_protectWrite :
    (after (.protectWrite 3 0x0001 1) pass).boot.protect = true ∧
    (after (.protectWrite 3 0x0002 1) pass).boot.protect = false ∧
    (after (.protectWrite 3 0x0001 1) pass).passQueue = [⟨3, 2, .write 0x0001 1⟩] := by decide +kernel

theorem test_liveSettingWrite :
    let t := after (.liveSettingWrite 3 5 0x0002 (bytes [9, 2])) act
    t.live.intervalsLow = bytes [100, 2] ∧ t.intervals[0] = 612 ∧ t.intervals[1] = 0 := by decide +kernel

theorem test_liveSettingWrite_invalid :
    let t := after (.liveSettingWrite 3 5 0x0001 (bytes [9, 2]))
      { act with intervals := act.intervals.set 0 50, intervalDue := 1 }
    t.live.intervalsLow = bytes [9] ∧ t.intervals[0] = 0 ∧ t.flags.part = 1 ∧ t.intervalDue = 1 ∧
      (after (.intervalExpiry 0) t).sweepQueue = [⟨0, .copy, .interval⟩] := by decide +kernel

theorem test_controlAreaLineWrite :
    let t := after (.controlAreaLineWrite 3 41 0xFFFF 6) act
    t.passQueue = [⟨3, 41, .write 0xFFFF 6⟩] ∧ t.live = act.live ∧
      (after (.controlAreaLineWrite 3 3 0xFFFF 6) { act with boot := { act.boot with protect := true } }).responses
        = [⟨3, .refused, none⟩] := by decide +kernel

theorem test_headRequestHeld :
    let s := { act with partState := .loading }
    (after (.headRequestHeld ⟨9, 0x50000000, .read⟩) s).head = some ⟨9, 0x50000000, .read⟩ ∧
    (after (.headRequestHeld ⟨8, 0x50000000, .read⟩) { s with head := some ⟨9, 0x50000000, .read⟩ }).head
      = some ⟨9, 0x50000000, .read⟩ := by decide +kernel

theorem test_headReexamination :
    let s := { act with head := some ⟨9, 0x50000000, .read⟩ }
    (after .headReexamination s).head = none ∧ (after .headReexamination s).passQueue = [⟨9, 0x5000000, .read⟩] ∧
    (after .headReexamination { s with passQueue := List.replicate 8 ⟨1, 1, .read⟩ }).head.isSome := by decide +kernel

/-- A head for a window line waits while the Sweep Engine's claim can be taken, a listed line included. -/
theorem test_headReexamination_waits :
    let s := { swept sw with head := some ⟨9, 0x40000020, .read⟩ }
    (after .headReexamination s).head.isSome ∧
    (after .headReexamination { s with suspects := [0x4000002] }).head.isSome ∧
    (after .headReexamination { s with engine := none, suspects := [0x4000002] }).responses = [⟨9, .fault, none⟩] := by
  decide +kernel

theorem test_partOwnedWrite :
    (after (.partOwnedWrite 4 0x20001FF0 0xFFFF 0) act).logQueue.map (fun e => e.incident.detail) = [] ∧
    (after (.partOwnedWrite 4 0x200011F0 0xFFFF 0) { act with logBase := 0x2000100 }).logQueue.map
      (fun e => e.incident.detail) = [3] ∧
    (after (.partOwnedWrite 4 0x48000040 0xFFFF 0) act).responses = [⟨4, .refused, none⟩] := by decide +kernel

theorem test_commandWriteRefused :
    (after (.commandWriteRefused 4 0x00FF 0) { act with command.state := .running }).logQueue.map
      (fun e => e.incident.detail) = [8] ∧
    (after (.commandWriteRefused 4 0x007F 0) act).logQueue.map (fun e => e.incident.detail) = [9] := by decide +kernel

/-! ### The command line -/

theorem test_arm :
    let t := after (.arm 4 (cw 0 0 0)) pass
    t.partState = .loading ∧ t.command = ⟨1, 0, 0, 0x5A, 0, .none, .running, 1⟩ ∧
      (after (.arm 4 (cw 0 0 0)) act).command.result = .wrongState := by decide +kernel

theorem test_disarm :
    let t := after (.disarm 4 (cw 0 0 0)) { swept sw with sweepQueue := [⟨1, .copy, .command⟩] }
    t.partState = .draining ∧ t.sweepQueue = [] ∧ t.command.state = .running ∧
      (t.engine.map (fun x => (x.abandoning, x.inFlight))) = some (true, .none) := by decide +kernel

theorem test_rearm :
    (after (.rearm 4 (cw 1 0 0)) act).windows[1].armed = true ∧
    (after (.rearm 4 (cw 3 0 0)) act).command.result = .noWindow ∧
    (after (.rearm 4 (cw 16 0 0)) act).command.result = .badWindow ∧
    (after (.rearm 4 (cw 0xFF 0 0)) act).windows[3].armed = false := by decide +kernel

theorem test_sweep :
    (after (.sweep 4 (cw 0xFF 1 0)) act).sweepQueue = [⟨0, .copy, .command⟩, ⟨1, .copy, .command⟩] ∧
    (after (.sweep 4 (cw 0 0 0)) act).command.result = .badAction ∧
    (after (.sweep 4 (cw 0xFE 3 0)) act).command.result = .badWindow ∧
    (after (.sweep 4 (cw 2 3 0)) act).command.result = .notSweepable := by decide +kernel

theorem test_sweep_overrun :
    let t := after (.sweep 4 (cw 0 3 0)) { act with sweepQueue := [⟨0, .copy, .interval⟩] }
    t.command.result = .overrun ∧ t.sweepQueue.length = 1 ∧ t.flags.part = 0x880 ∧
      t.logQueue.map (fun e => (e.incident.window, e.incident.addr, e.incident.detail)) = [(some 0, 0x40000000, 1)] := by
  decide +kernel

theorem test_release :
    let s := { act with suspects := [0x4100001] }
    (after (.release 4 (cw 0 0 0x4100001F)) s).releaseClaim = some 0x4100001 ∧
    (after (.release 4 (cw 0 0 0x41000000)) s).command.result = .notFound := by decide +kernel

theorem test_logReset :
    let t := after (.logReset 4 (cw 0 0 0)) { act with logHeld := 32, logNext := 40 }
    t.logHeld = 0 ∧ t.logNext = 40 ∧ t.command.result = .ok ∧ t.flags.part = 0x800 := by decide +kernel

theorem test_badCommand :
    (after (.badCommand 4 7 (cw 0 0 0)) act).command = ⟨7, 0, 0, 0x5A, 0, .badCommand, .done, 1⟩ ∧
    (after (.badCommand 4 0 (cw 0 0 0)) pass).command.result = .badCommand := by decide +kernel

/-! ### Claims -/

theorem test_eventClaimTaken :
    let t := after .eventClaimTaken { ev 0 ⟨0, 15, .inactive, 0⟩ with eventClaim := some 0 }
    t.inputs[0].pending = 0 ∧ t.servicePos = 1 ∧ t.eventClaim = none ∧
      t.entries[0] = .fetchWait ⟨0x4000001, 0⟩ [.update .event (lanes [0, 45]) 2] := by decide +kernel

theorem test_eventClaimTaken_listed :
    let t := after .eventClaimTaken
      { ev 0 ⟨0, 15, .inactive, 0⟩ with eventClaim := some 0, suspects := [0x4000001] }
    t.flags.part = 0x20 ∧ t.entries = act.entries ∧ t.logQueue.map (fun e => e.incident.detail) = [45] := by
  decide +kernel

theorem test_sweepClaimTaken :
    let t := after .sweepClaimTaken (swept sw)
    t.entries[0] = .fetchWait ⟨0x4000000, 0⟩ [.sweep .copyClear 1 0] ∧
      t.engine.map (fun x => x.inFlight) = some .accepted := by decide +kernel

theorem test_sweepClaimTaken_clear :
    let t := after .sweepClaimTaken { swept { sw with action := .clear, nextIndex := 3 } with suspects := [0x4000003] }
    t.entries[0] = .wbWait ⟨0x4000003, 0⟩ 0 none false ∧ t.engine = none ∧ t.flags.sweepDone = 1 ∧ t.suspects = [] := by
  decide +kernel

theorem test_releaseClaimTaken :
    let t := after .releaseClaimTaken { act with suspects := [0x4100001], releaseClaim := some 0x4100001 }
    t.entries[0] = .wbWait ⟨0x4100001, 1⟩ 0 none true ∧ t.suspects = [] ∧ t.releaseClaim = none ∧
      (after .releaseClaimTaken { act with releaseClaim := some 0x4100001 }).command.result = .notFound := by
  decide +kernel

/-! ### The Sweep Engine -/

theorem test_sweepStart :
    let t := after .sweepStart { act with sweepQueue := [⟨0, .copyClear, .interval⟩], tick := 0x01020304 }
    t.windows[0].sequence = 1 ∧ t.sweepQueue = [] ∧ t.engine.map (fun x => (x.phase, x.waiting)) =
      some (.opening, [⟨.opening, 0x4800000, bytes [0x29, 0, 1, 0, 4, 3, 2, 1, 0, 0, 0, 0, 0, 0, 0, 0]⟩]) := by
  decide +kernel

theorem test_closingHeaderProduced :
    let t := after .closingHeaderProduced (swept { sw with phase := .closing, copied := 3, failed := 1 })
    t.engine.map (fun x => x.waiting) =
      some [⟨.ending, 0x4800000, bytes [0x1A, 0, 1, 0, 7, 0, 0, 0, 0, 0, 3, 0, 1, 0, 0, 0]⟩] := by
  decide +kernel

theorem test_sweepClose :
    let t := after .sweepClose (swept { sw with phase := .closing, endHeader := .answered false })
    t.engine = none ∧ t.flags = ⟨0, 1, 0⟩ ∧
      (after .sweepClose (swept { sw with phase := .closing, endHeader := .answered true })).flags = ⟨0, 1, 0x100⟩ := by
  decide +kernel

theorem test_abandoningHeaderProduced :
    let t := after .abandoningHeaderProduced (swept { sw with inFlight := .none, abandoning := true })
    t.engine.map (fun x => x.waiting) =
      some [⟨.ending, 0x4800000, bytes [0x1B, 0, 1, 0, 7, 0, 0, 0, 0, 0, 0, 0, 0, 0, 0, 0]⟩] := by decide +kernel

theorem test_sweepAbandoned :
    let t := after .sweepAbandoned
      (swept { sw with inFlight := .none, abandoning := true, nextIndex := 2, failed := 1, endHeader := .answered false })
    t.engine = none ∧ t.flags = ⟨0, 0, 0x100⟩ ∧
      t.logQueue.map (fun e => (e.incident.kind, e.incident.addr, e.incident.detail))
        = [(.sweepAbandoned, 0x40000000, 2)] := by decide +kernel

/-! ### The ports -/

theorem test_portGrant :
    let s := { ent (.fetchWait ⟨0x4000000, 0⟩ []) with passQueue := [⟨9, 0x5000000, .read⟩], tick := 3 }
    let t := after .portGrant s
    t.dreq = [⟨0, 0x4000000, .read⟩] ∧ t.entries[0] = .fetching ⟨0x4000000, 0⟩ [] 0 ∧
      t.tags[0] = .outstanding ⟨.fetch 0, false, 0x4000000, 3, false⟩ ∧ t.passQueue.length = 1 := by decide +kernel

theorem test_portGrant_orderB :
    let s := { ent (.fetchWait ⟨0x4000000, 0⟩ []) with
      boot := { act.boot with portOrder := .b }
      engine := some { sw with waiting := [⟨.line 0, 0x4800001, 5⟩] } }
    (after .portGrant s).dreq = [⟨0, 0x4800001, .write 0xFFFF 5⟩] := by decide +kernel

theorem test_downstreamRequestTaken :
    (after .downstreamRequestTaken { act with dreq := [⟨0, 1, .read⟩, ⟨1, 2, .read⟩] }).dreq = [⟨1, 2, .read⟩] := by
  decide +kernel

theorem test_responseSent :
    let t := after .responseSent { act with responses := [⟨1, .okay, none⟩, ⟨2, .fault, none⟩] }
    t.responses = [⟨2, .fault, none⟩] ∧ t.ursp = some ⟨1, 0, none⟩ ∧
      (after .responseSent t).ursp = some ⟨2, 2, none⟩ := by decide +kernel

theorem test_passResponse :
    let s := out { act with outstanding := [9] } (.pass 9) false 0x5000000
    (after (.passResponse ⟨0, 0, 77⟩) s).responses = [⟨9, .okay, some 77⟩] ∧
    (after (.passResponse ⟨0, 1, 77⟩) s).responses = [⟨9, .refused, none⟩] ∧
    (after (.passResponse ⟨0, 3, 77⟩) s).responses = [⟨9, .fault, none⟩] ∧
    (after (.passResponse ⟨0, 3, 77⟩) s).flags.part = 0x10 := by decide +kernel

theorem test_fetchResponse :
    let s := out (ent (.fetching ⟨0x4000000, 0⟩ [.update .up (lanes [65530]) 1, .read 9] 0)) (.fetch 0) false 0x4000000
    let t := after (.fetchResponse ⟨0, 0, lanes [10, 3]⟩) s
    t.responses = [⟨9, .okay, some (lanes [65535, 3])⟩] ∧ t.flags.window = 1 ∧
      t.entries[0] = .wbWait ⟨0x4000000, 0⟩ 0 (some (lanes [10, 3])) false := by decide +kernel

theorem test_fetchResponse_mismatch :
    let s := out (ent (.fetching ⟨0x4100000, 1⟩ [.update .up 1 1, .read 9] 0)) (.fetch 0) false 0x4100000
    let t := after (.fetchResponse ⟨0, 0, 0⟩) s
    t.responses = [⟨9, .fault, none⟩] ∧ t.flags.part = 2 ∧ t.suspects = [0x4100000] ∧ t.entries[0] = .free ∧
      t.logQueue.map (fun e => (e.incident.kind, e.incident.detail)) = [(.checkMismatch, 1)] := by decide +kernel

theorem test_writebackResponse :
    let s := out (ent (.writing ⟨0x4000000, 0⟩ 6 none false true 5 0)) (.writeback (.general 0)) true 0x4000000
    (after (.writebackResponse ⟨0, 0, 0⟩) s).entries[0] = .wbWait ⟨0x4000000, 0⟩ 6 (some 5) false ∧
    (after (.writebackResponse ⟨0, 2, 0⟩) s).entries[0] = .wbWait ⟨0x4000000, 0⟩ 6 none false := by decide +kernel

theorem test_shadowResponse :
    let s := out (swept { sw with issued := [(0, .line 2)] }) (.shadow 0 (.line 2)) true 0x4800003
    (after (.shadowResponse ⟨0, 0, 0⟩) s).engine.map (fun x => (x.copied, x.failed, x.issued)) = some (1, 0, []) ∧
    (after (.shadowResponse ⟨0, 2, 0⟩) s).engine.map (fun x => (x.copied, x.failed, x.issued)) = some (0, 1, []) := by
  decide +kernel

theorem test_logWriteResponse :
    (after (.logWriteResponse ⟨0, 2, 0⟩) (out act (.log 3) true 0x2000103)).flags.part = 0x410 ∧
    (after (.logWriteResponse ⟨0, 2, 0⟩) (out act (.log 3) true 0x2000103)).logQueue = [] := by decide +kernel

theorem test_setupResponse :
    (after (.setupResponse ⟨0, 0, 12⟩) (out act (.setup 4) false 4)).setup[4] = .taken 12 ∧
    (after (.setupResponse ⟨0, 1, 12⟩) (out act (.setup 4) false 4)).setup[4] = .failed := by decide +kernel

theorem test_lateResponse :
    (after (.lateResponse ⟨0, 2, 12⟩) { act with tags := act.tags.set 0 .retired }).tags[0] = .free ∧
    (after (.lateResponse ⟨0, 2, 12⟩) { act with tags := act.tags.set 0 .retired }).flags.part = 0 := by decide +kernel

/-! ### Arithmetic of the worked examples -/

/-- Section 6.8: lane 0 is 1, the others 0, under polynomial B. -/
theorem test_checkValue : checkValue .b (lanes [1]) = 0xD20B ∧
    winC.fillHeld .b (lanes [1]) = lanes [1, 0, 0, 0, 0, 0, 0, 0xD20B] := by decide +kernel

/-- Section 4.12: lanes 0, 1, 2, 4 and 5 of a WEIGHTED line. -/
theorem test_weighted :
    { win with function := .weighted, format := .s16, weights := 0x0503807F00FF0201 }.update 0 0x37
        (lanes [10, -20, 7, 0, 300, 300]) (lanes [0, 100, 50, 9, 32000, -32000, -5])
      = lanes [10, 60, 43, 9, 32767, -32768, -5, 0] := by decide +kernel

/-- Section 4.13: item A on a cleared EXTREME line. -/
theorem test_extreme :
    { win with function := .extreme, format := .s16 }.update 0x70001234 0x0F (lanes [-5, 12, -5, 40])
        ({ win with function := .extreme, format := .s16 }.clearedLine)
      = lanes [-5, 0, 40, 3, 4, 0x1234, 0x1234, 0] := by decide +kernel

/-- Section 4.14: write 2 on the line write 1 left. -/
theorem test_difference :
    { winC with function := .difference }.update 0 5 (lanes [400, 0, 7]) (lanes [1000, 1000, 0, 0, 65000, 32767])
      = lanes [400, -600, 7, 7, 65000, 32767] := by decide +kernel

/-! ### The statements' hypotheses are met

Each theorem names the statement whose hypotheses its states meet, clause by clause. -/

theorem witness_StepRunsTheFrontCommand : ({ act with pending := [.bootEnd] } : State).pending = [.bootEnd] := rfl

theorem witness_EmptyQueuePassesOneCycle :
    (State.reset.pending = [] ∧ State.reset.bootStage = .inReset) ∧
    ({ pass with cycles := 998 }.bootStage ≠ .inReset ∧ 998 + 1 < pass.boot.divider) ∧
    ({ pass with cycles := 999 }.bootStage ≠ .inReset ∧ pass.boot.divider ≤ 999 + 1) := by decide

theorem witness_BootBeginsAtRelease : State.reset.bootStage = .inReset ∧ pass.bootStage ≠ .inReset := by decide

/-- Both slots in each form, and log bases on either side of the tests of the log region. -/
theorem witness_BootSettingsFollowTheirLines :
    (∀ x ∈ [SetupSlot.taken (bytes [0, 2, 0, 0, 0, 0, 1]), .taken (bytes [0, 3]), .failed],
      ∀ y ∈ [SetupSlot.taken 0, .taken (bytes [0, 0, 0, 0, 3]), .taken (bytes [0, 0, 0, 0x30, 1]), .failed],
        (reading x y).bootStage = .reading ∧ (reading x y).setup[2] = x ∧ (reading x y).setup[3] = y ∧ x.ended ∧
          y.ended) ∧
    (after .bootSettingsApplied (reading .failed (.taken (bytes [0xA0, 2, 0, 0x20, 1])))).logStyle = .wrap ∧
    (after .bootSettingsApplied (reading .failed (.taken (bytes [0x90, 2, 0, 0x20, 1])))).logStyle = .off ∧
    (after .bootSettingsApplied (reading .failed (.taken (bytes [0, 0xFE, 0xFF, 0x1F, 2])))).logStyle = .keepFirst ∧
    (after .bootSettingsApplied (reading .failed (.taken (bytes [0x10, 0xFE, 0xFF, 0x1F, 2])))).logStyle = .off ∧
    (after .bootSettingsApplied (reading .failed (.taken (bytes [0, 0xFE, 0xFF, 0xFF, 1])))).logStyle = .wrap ∧
    (after .bootSettingsApplied (reading .failed (.taken (bytes [0x10, 0xFE, 0xFF, 0xFF, 1])))).logStyle = .off := by
  decide +kernel

/-- No incident kept in BOOT, one and four, under each style; a held count of 31 with two kept. -/
theorem witness_StatusCopyFormedInBoot :
    (∀ k ∈ [ResetKind.warm, .powerOn], ∀ x ∈ [SetupSlot.taken 5, .failed], ∀ y ∈ [LogStyle.off, .wrap, .keepFirst],
      ∀ n ∈ [0, 1, 4],
        let kept : List Incident := List.replicate n ⟨.setupInvalid, none, 0, 0x30, 1⟩
        let s := { applied k x with logStyle := y, logQueue := kept.map .kept }
        s.bootStage = .applied ∧ s.setup[0] = x ∧ x.ended ∧ s.logQueue = kept.map .kept ∧ kept.length ≤ 4) ∧
    ((applied .warm .failed).resetKind = .warm ∧ (applied .warm .failed).boot.keepStatus) ∧
    (let i : Incident := ⟨.setupInvalid, none, 5, 0x30, 1⟩
     let t := after .statusCopyFormed { applied .warm (.taken (bytes [0, 0, 0, 0, 0, 0, 0, 0, 0, 31, 0xFF, 0xFF])) with
       logStyle := .keepFirst, logQueue := [.kept i, .kept i], tick := 8 }
     t.logQueue = [.record 0xFFFF i] ∧ t.logNext = 0 ∧ t.logHeld = 32 ∧ t.flags.part = 0x200) := by decide +kernel

theorem witness_BootEndsByStartMode :
    (∀ m ∈ [StartMode.wait, .armAtBoot, .resume], ∀ b ∈ [true, false],
      (booted m b).partState = .boot ∧ (booted m b).bootStage = .formed ∧ (booted m b).statusWritten ∧
        (booted m b).commandWritten ∧ (booted m b).head = none) ∧
    (let s := { booted .wait true with head := some ⟨9, 0x50000000, .read⟩ }
     s.outstanding.contains 9 = false ∧ s.controlIndex 0x5000000 = none ∧ s.inLog 0x5000000 = false ∧
       s.passQueue.length < 8) := by decide +kernel

/-- `loaded` with lines 7 and 9 as given. -/
def loadedInputs (l7 l9 : SetupSlot) : State :=
  let s := loaded winFirst winSecond
  { s with setup := (s.setup.set 7 l7).set 9 l9 }

/-- A binding of input 0 that is `bind0`, and one of input 1, disabled. -/
def bindLine : Line := bytes [1, 1, 3, 0, 0x10, 0, 0, 0x40, 0, 1, 3, 0, 0x10, 0, 0, 0x40]

theorem witness_LoadingCompleteArmsTheBridge :
    (∀ s ∈ [loaded winFirst winSecond, loadedInputs .failed .failed, loadedInputs (.taken bindLine) (.taken 0),
        { loadedInputs .failed .failed with command.state := .running }],
      s.partState = .loading ∧ (∀ k : Fin 42, 4 ≤ k.val → s.setup[k].ended) ∧ s.head = none ∧ s.setup[4] = .taken 0 ∧
        (s.sweepQueue.map (·.window)).Nodup) ∧
    (loaded winFirst winSecond).command.state ≠ .running ∧
    (let s := { loaded winFirst winSecond with setup := act.setup.set 4 .failed }
     s.setup[4] = .failed) ∧
    (∀ n : InputNo, (7 + n.val / 2 = 7 ↔ n.val ≤ 1) ∧ (7 + n.val / 2 = 8 ↔ 2 ≤ n.val)) ∧
    (let t := after .loadingComplete { loadedInputs (.taken bindLine) (.taken (bytes [3, 0, 0xE8, 3, 2])) with
       command.state := .running }
     t.bindings[0] = some bind0 ∧ t.bindings[1] = none ∧ t.chord = ⟨3, 1000, 2⟩ ∧ t.command.state = .done ∧
       t.flags.part = 0x800) ∧
    (let t := after .loadingComplete { loadedInputs .failed (.taken (bytes [3, 0, 0xE7, 3, 2])) with
       setup := ((loadedInputs .failed (.taken (bytes [3, 0, 0xE7, 3, 2]))).setup.set 10
         (.taken (winFirst ||| bytes [0, 0, 0, 0, 0, 0, 0, 0, 0, 0, 0, 0, 2]))) }
     t.chord = ⟨0, 999, 2⟩ ∧ t.command.result = .setupWarn ∧ t.sweepQueue = [⟨0, .clear, .arm⟩] ∧
       t.logQueue.map (fun e => (e.incident.addr, e.incident.detail)) =
         [(0x70, 1), (0x71, 1), (0x90, 7), (0, 3)]) := by decide +kernel

/-- The first and the last test of a binding, and a binding that passes. -/
theorem witness_LoadingCompleteArmsTheBridge_tests :
    (act.bindingTests 0 (bytes [7])).first 0x02 ∧ (act.bindingTests 0 (bytes [1, 7, 3, 0, 0, 0, 0, 0x41])).first 0x06 ∧
    (act.bindingTests 0 bindLine).pass ∧ bind0.describedBy 0 bindLine ∧ act.windowOf bind0.target = some bind0.window := by
  have h1 : act.windowOf 0x4100000 = some 1 := by decide +kernel
  have h2 : act.windowOf 0x4000001 = some 0 := by decide +kernel
  refine ⟨(first_cons ..).2 (.inl ⟨by decide +kernel, rfl⟩), ?_, ?_, ⟨by decide +kernel, by decide +kernel, by decide +kernel,
    by decide +kernel, by decide +kernel⟩, h2⟩
  · have ht : (bytes [1, 7, 3, 0, 0, 0, 0, 0x41]).extractLsb' 36 28 = (0x4100000 : LineAddr) := by decide +kernel
    refine (first_cons ..).2 (.inr ⟨by decide +kernel, (first_cons ..).2 (.inr ⟨by decide +kernel, (first_cons ..).2
      (.inr ⟨?_, (first_cons ..).2 (.inr ⟨?_, (first_cons ..).2 (.inl ⟨⟨1, winC, ?_, by decide +kernel, by decide +kernel⟩,
        rfl⟩)⟩)⟩)⟩)⟩)
    · show ¬act.windowOf ((bytes [1, 7, 3, 0, 0, 0, 0, 0x41]).extractLsb' 36 28) = none
      rw [ht, h1]; nofun
    · rintro ⟨w, r, hw, hr, hf⟩
      change act.windowOf ((bytes [1, 7, 3, 0, 0, 0, 0, 0x41]).extractLsb' 36 28) = some w at hw
      rw [ht, h1] at hw; cases hw
      have : act.record 1 = some winC := by decide +kernel
      rw [this] at hr; cases hr
      exact hf rfl
    · show act.windowOf ((bytes [1, 7, 3, 0, 0, 0, 0, 0x41]).extractLsb' 36 28) = some 1
      rw [ht, h1]
  · have ht : bindLine.extractLsb' 36 28 = (0x4000001 : LineAddr) := by decide +kernel
    refine (pass_cons ..).2 ⟨by decide +kernel, (pass_cons ..).2 ⟨by decide +kernel, (pass_cons ..).2 ⟨?_,
      (pass_cons ..).2 ⟨?_, (pass_cons ..).2 ⟨?_, pass_nil.2 trivial⟩⟩⟩⟩⟩
    · show ¬act.windowOf (bindLine.extractLsb' 36 28) = none
      rw [ht, h2]; nofun
    all_goals
      rintro ⟨w, r, hw, hr, hf⟩
      change act.windowOf (bindLine.extractLsb' 36 28) = some w at hw
      rw [ht, h2] at hw; cases hw
      have : act.record 0 = some win := by decide +kernel
      rw [this] at hr; cases hr
      revert hf; decide +kernel

/-- The incident of each test of a binding, in the order of Table 8-4. -/
theorem test_judgeBinding :
    ([bytes [7, 0, 3, 0, 0, 0, 0, 0x41], bytes [1], bytes [1, 0, 3, 0, 0, 0, 0, 0x42], bytes [1, 0, 3, 0, 0, 0, 0, 0x40],
        bytes [1, 7, 3, 0, 0, 0, 0, 0x41]].map fun l =>
      let s := { act with
        windows := act.windows.set 0 ⟨some { win with function := .weighted }, true, 0⟩
        setup := act.setup.set 7 (.taken l) }
      (s.judgeBinding 0).logQueue.map fun e => e.incident.detail) = [[2], [3], [4], [5], [6]] := by decide +kernel

theorem witness_ValidWindowsNeverShareALine :
    let s := { loaded winFirst winSecond with logStyle := .off }
    s.partState = .loading ∧ (∀ k : Fin 42, 4 ≤ k.val → s.setup[k].ended) ∧ s.head = none ∧
      (∀ l : LineAddr, ¬(s.inLog l ∧ (s.controlIndex l).isSome)) ∧
      ∃ t, exec .loadingComplete s = .next t ∧ t.record 0 = some win ∧ lineIn win.base win.length 0x4000003 ∧
        t.shadowHolds 0x4800004 0 :=
  ⟨by decide +kernel, by decide +kernel, by decide +kernel, fun _ h => Bool.false_ne_true h.1,
    after .loadingComplete { loaded winFirst winSecond with logStyle := .off }, rfl, by decide +kernel,
    by decide +kernel, by decide +kernel⟩

/-- A window judged against window 0: its lines not read, its descriptor unused, in code or described; each test of
Table 3-6 at the boundary of what it lets through. -/
theorem witness_ValidWindowsNeverShareALine_tests :
    let s := { act with windows := pass.windows.set 0 ⟨some win, true, 0⟩ }
    (∀ v : WindowNo, 1 ≤ v → s.record v = none) ∧
    (loaded winFirst winSecond).setup[(10 : Fin 42)] = .taken winFirst ∧
    { s with setup := s.setup.set 13 .failed }.setup[(13 : Fin 42)] = .failed ∧
    unusedDescriptor 0 ∧ ¬unusedDescriptor winFirst ∧ win.describedBy winFirst winSecond ∧
    (∀ r : WindowRecord, ¬r.describedBy (bytes [0, 0, 0, 0, 0, 0, 0, 0, 0, 0, 4]) 0) ∧
    (∀ x ∈ [({ winC with length := 0 }, (0x03 : BitVec 32)), ({ winC with length := 4097 }, 0x03),
        ({ winC with base := 0xFFFFFFD }, 0x03), ({ winC with function := .extreme, format := .u32 }, 0x04),
        ({ winC with threshold := 65536 }, 0x05), ({ winC with base := 0x3FFFFFD }, 0x06),
        ({ winC with base := 0x4800004 }, 0x06), ({ winC with base := 0x2000117 }, 0x06), ({ winC with base := 41 }, 0x06),
        ({ winC with shadowBase := 0xFFFFFFC }, 0x07), ({ winC with shadowBase := 0x4100003 }, 0x07),
        ({ winC with shadowBase := 0x47FFFFC }, 0x07), ({ winC with shadowBase := 0, intervalAction := some .copy }, 0x08)],
      (s.windowTests 1 x.1).first x.2) ∧
    (∀ r ∈ [winC, { winC with base := 0xFFFFFFC, length := 4 }, { winC with base := 0x3FFFFFC }, { winC with base := 42 },
        { winC with threshold := 65535 }, { winC with shadowBase := 0xFFFFFFB }, { winC with shadowBase := 0x4100004 },
        { winC with shadowBase := 0, intervalAction := some .clear }], (s.windowTests 1 r).pass) := by
  intro s
  have hw : ∀ v : WindowNo, 1 ≤ v → s.record v = none := by decide +kernel
  have hd : win.describedBy winFirst winSecond := (parseDescriptor_iff ..).1 (by decide +kernel)
  refine ⟨hw, by decide +kernel, by decide +kernel, (descriptorUnused_iff _).1 (by decide +kernel),
    fun h => absurd ((descriptorUnused_iff _).2 h) (by decide +kernel), hd, ?_, ?_, ?_⟩
  · intro r hr
    have : parseDescriptor (bytes [0, 0, 0, 0, 0, 0, 0, 0, 0, 0, 4]) 0 = none := by decide +kernel
    rw [(parseDescriptor_iff ..).2 hr] at this; cases this
  · intro x hx
    refine ((recordFault_tests s 1 x.1 hw).1 x.2).1 ?_
    revert x; decide +kernel
  · intro r hr
    refine (recordFault_tests s 1 r hw).2.1 ?_
    revert r; decide +kernel

theorem witness_DrainingEndEmptiesTheTables :
    let s := { act with partState := .draining }
    s.partState = .draining ∧ (∀ i : Fin 12, s.entries[i] = .free) ∧ s.engine = none ∧ s.head = none := by
  decide +kernel

/-- A tag in each state, and tag 0 outstanding with the comparison at its limit and one past it. -/
theorem witness_TickIncrementCounts :
    (∀ b ∈ [true, false],
      let s := { pass with tags := pass.tags.set 0 (.outstanding ⟨.log 0, true, 9, 0, b⟩) }
      s.bootStage ≠ .inReset ∧ s.tags[(0 : DownTag)] = .outstanding ⟨.log 0, true, 9, 0, b⟩) ∧
    pass.tags[(31 : DownTag)] = .free ∧ { pass with tags := pass.tags.set 31 .retired }.tags[(31 : DownTag)] = .retired ∧
    (after (.tickIncrement 0) { out pass (.log 0) true 9 with tick := 49 }).tags[0]
      = .outstanding ⟨.log 0, true, 9, 0, false⟩ ∧
    (after (.tickIncrement 0) { out pass (.log 0) true 9 with tick := 50 }).tags[0]
      = .outstanding ⟨.log 0, true, 9, 0, true⟩ := by decide +kernel

/-- Inputs in each state; the chord held, held with the flag set, held with a member's change due, and not held. -/
theorem witness_TickSamplesAndCountsDown :
    (act.bootStage ≠ .inReset ∧ act.partState = .active ∧ act.quiet ∧ act.levels = none ∧ act.intervals[0] ≠ 1) ∧
    (∀ i ∈ [InputState.reset, ⟨0, 0, .pressed, 98⟩, ⟨0, 3, .stuck, 0⟩], (ev 1 i).quiet ∧ (ev 1 i).levels = some 1) ∧
    { act with intervals := act.intervals.set 2 1 }.intervals[2] = 1 ∧ (ev 1 .reset).chord.stuckLimit ≠ 0 ∧
    (∀ f ∈ [true, false], { ev 3 .reset with chordFired := f, chordTimer := 5 }.quiet) ∧
    (let s := { ev 3 .reset with chordTimer := 5 }
     s.chord.members &&& 3 = s.chord.members ∧ s.chord.members &&& 1 ≠ s.chord.members ∧
     (after (.tickIncrement 3) s).chordTimer = 6 ∧ (after (.tickIncrement 2) s).chordTimer = 5 ∧
       (after (.tickIncrement 2) s).inputs[0].debounceCount = s.debounceTime 0 + 1) := by decide +kernel

/-- Changes of inputs 1 and 2 due at one sample, both bound, with the service position at 0. -/
def twoEdges : State :=
  { act with
    bindings := (act.bindings.set 1 (some bind0)).set 2 (some bind0), levels := some 0
    inputs := (act.inputs.set 1 ⟨1, 0, .inactive, 0⟩).set 2 ⟨1, 0, .inactive, 0⟩ }

/-- The two edges of one sample stand together: the claim is for the first input in the order of search, whichever was
accepted first (R123). -/
theorem witness_AcceptedChangeCountsTheEdge :
    (∀ v ∈ [0#4, 1#4, 2#4, 3#4], ∀ i ∈ [InputState.mk 1 14 .inactive 0, ⟨1, 15, .inactive, 0⟩, ⟨1, 2, .stuck, 0⟩],
      (ev v i).partState = .active ∧ (ev v i).levels = some v ∧
        (ev v i).inputs[0].debounceCount = (ev v i).debounceTime 0 + 1 ∧ (ev v i).bindings[0] = some bind0 ∧
        (ev v .reset).bindings[1] = none ∧ (ev v i).eventClaim = none ∧ (ev v i).chord.members.getLsbD 0 ∧
        (ev v i).chord.members.getLsbD 2 = false ∧ (∀ m : InputNo, m ≠ 0 → (ev v i).edgeDue m = false)) ∧
    (twoEdges.partState = .active ∧ twoEdges.eventClaim = none ∧ twoEdges.edgeDue 1 ∧
      (∀ m : InputNo, 0 < twoEdges.inputs[m].pending → twoEdges.newCounts.getLsbD m.val = true)) ∧
    (let t := after (.acceptedChange 2) twoEdges
     t.eventClaim = none ∧ (after (.acceptedChange 1) t).eventClaim = some 1) ∧
    (after (.acceptedChange 0) { ev 2 ⟨1, 0, .inactive, 0⟩ with chordTimer := 7 }).chordTimer = 0 ∧
    (after (.acceptedChange 0) { ev 3 ⟨1, 0, .pressed, 0⟩ with chordTimer := 7, chordFired := true }).chordFired = false ∧
    { ev 0 ⟨1, 0, .inactive, 0⟩ with eventClaim := some 3 }.eventClaim = some 3 := by decide +kernel

theorem witness_StuckInputIsReported :
    let s := ev 1 ⟨0, 0, .pressed, 100⟩
    s.partState = .active ∧ s.bindings[0] = some bind0 ∧ s.inputs[0].stuck = .pressed ∧ s.chord.stuckLimit ≠ 0 ∧
      s.inputs[0].stuckTimer = 100 * s.chord.stuckLimit := by decide +kernel

theorem witness_ChordHandsItsSweeps :
    let s := { ev 3 .reset with chordTimer := 1000, sweepQueue := [⟨1, .copy, .command⟩] }
    s.partState = .active ∧ s.levels = some 3 ∧ s.chord.members ≠ 0 ∧ s.chord.members &&& 3 = s.chord.members ∧
      s.chordTimer = s.chord.holdTime ∧ s.chordFired = false ∧ (s.sweepQueue.map (·.window)).Nodup := by
  decide +kernel

/-- Without an action (window 1), with one (window 0), and with a request already queued. -/
theorem witness_IntervalExpiryReloadsAndHands :
    (∀ q ∈ [[], [SweepRequest.mk 0 .copy .chord]],
      let s := { act with intervalDue := 1, sweepQueue := q }
      s.inService 0 = some win ∧ s.intervalDue.getLsbD 0 ∧ win.intervalAction = some .copy ∧
        (∀ v : WindowNo, v < 0 → s.intervalDue.getLsbD v.val = false)) ∧
    (let s := { act with intervalDue := 2 }
     s.inService 1 = some winC ∧ s.intervalDue.getLsbD 1 ∧ winC.intervalAction = none ∧
       (∀ v : WindowNo, v < 1 → s.intervalDue.getLsbD v.val = false)) := by decide +kernel

/-- The state each origin waits in, tag 0 expired. -/
def expired (o : Origin) : State :=
  { act with
    tags := act.tags.set 0 (.outstanding ⟨o, false, 5, 0, true⟩)
    entries := (act.entries.set 0 (.fetching ⟨0x4000000, 0⟩ [.read 9, .update .up 1 1] 0)).set 1
      (.writing ⟨0x4000001, 0⟩ 6 none true true 5 0)
    statusEntry := .writing none true (act.statusCopy 9) 0
    commandEntry := .writing none true act.command.encode 0
    engine := some { sw with issued := [(0, .opening), (0, .line 3), (0, .ending)] } }

theorem witness_ExpiryRetiresTheTag :
    (∀ o ∈ [Origin.pass 9, .setup 4, .log 0, .shadow 0 .opening, .shadow 0 (.line 3), .shadow 0 .ending,
        .writeback .status, .writeback .command, .fetch 0, .writeback (.general 1)],
      (expired o).tags[(0 : DownTag)] = .outstanding ⟨o, false, 5, 0, true⟩ ∧ (expired o).awaited 0 o ∧
        (expired o).bootStage = .formed ∧ (expired o).logStyle = .wrap ∧ (expired o).logQueue = []) ∧
    (expired (.fetch 0)).entries[(0 : Fin 12)] = .fetching ⟨0x4000000, 0⟩ [.read 9, .update .up 1 1] 0 ∧
    (expired (.writeback (.general 1))).entries[(1 : Fin 12)] = .writing ⟨0x4000001, 0⟩ 6 none true true 5 0 ∧
    (after (.requestExpiry 0) (expired (.fetch 0))).responses = [⟨9, .fault, none⟩] ∧
    (after (.requestExpiry 0) (expired (.writeback (.general 1)))).command.result = .memoryFault := by decide +kernel

/-! The Upstream Port. -/

/-- A line in each class, at the first and last line of the Control Area, the log region, a window and a shadow region. -/
theorem witness_DecoderFollowsTable1 :
    act.classify (act.controlLine 0) = .status ∧ act.classify (act.controlLine 1) = .command ∧
    act.classify (act.controlLine 41) = .control 41 ∧ act.classify (act.controlLine 42) = .pass ∧
    act.classify 0x20000FF = .pass ∧ act.classify 0x2000100 = .log ∧ act.classify 0x200011F = .log ∧
    act.classify 0x2000120 = .pass ∧ act.classify 0x47FFFFF = .pass ∧ act.classify 0x4800000 = .shadow ∧
    act.classify 0x4800004 = .shadow ∧ act.classify 0x4800005 = .pass ∧ act.classify 0x3FFFFFF = .pass ∧
    act.classify 0x4000000 = .window 0 ∧ act.classify 0x4000003 = .window 0 ∧ act.classify 0x4000004 = .pass ∧
    act.classify 0x4200000 = .pass ∧ pass.classify 0x4000000 = .pass := by decide +kernel

theorem witness_PassThroughQueuedOrStalled :
    (∀ s ∈ [act, { act with passQueue := List.replicate 7 ⟨1, 1, .read⟩ },
        { act with passQueue := List.replicate 8 ⟨1, 1, .read⟩ }],
      s.serves 9 ∧ s.classify (lineOf 0x50000000) = .pass ∧ s.classify (lineOf 0x20001000) = .log ∧
        s.classify (lineOf 0x48000000) = .shadow ∧ s.classify (lineOf 0x20) = .control 2) := by decide +kernel

theorem witness_RefusedRequestsReachNothing :
    (act.head = none ∧ act.bootStage ≠ .inReset ∧ act.examines) ∧ { act with outstanding := [9] }.outstanding.contains 9 ∧
    act.outstanding.contains 9 = false ∧ act.classify (lineOf 0) = .status ∧ act.command.state ≠ .running ∧
    { act with command.state := .running }.command.state = .running ∧ (0x7F : Enables).extractLsb' 0 8 ≠ 0xFF ∧
    { act with boot.protect := true }.boot.protect := by decide +kernel

/-- Each place an item can find: a FREE entry, a queue with seven items before and after the grant, and a copy before and
after the grant; a full queue, and a sweep's claim that comes first. -/
theorem witness_WindowWriteIsPosted :
    let h : Hold := ⟨0x4000000, 0⟩
    let q := List.replicate 7 (Item.read 1)
    (∀ s ∈ [act, ent (.fetchWait h q), ent (.fetching h q 0), ent (.wbWait h 0 none false),
        ent (.writing h 0 none false false 0 0)],
      s.serves 9 ∧ s.classify (lineOf 0x40000000) = .window 0 ∧ s.record 0 = some win ∧ win.laneRefusal 0xFFFF = none ∧
        s.listed 0x4000000 = false ∧ s.headTakeable 0x4000000) ∧
    act.place 0x4000000 = .openAt 0 ∧ (ent (.fetchWait h q)).place 0x4000000 = .join 0 ∧
    (ent (.fetching h q 0)).place 0x4000000 = .join 0 ∧ (ent (.wbWait h 0 none false)).place 0x4000000 = .apply 0 ∧
    (ent (.writing h 0 none false false 0 0)).place 0x4000000 = .apply 0 ∧
    (ent (.fetching h (List.replicate 8 (.read 1)) 0)).headTakeable 0x4000000 = false ∧
    ((swept sw).sweepReady ∧ (swept sw).headTakeable 0x4000000 = false) := by decide +kernel

theorem witness_WindowWriteRefusedOrEmpty :
    (∀ s ∈ [act, { act with suspects := [0x4100000] }],
      s.serves 9 ∧ s.classify (lineOf 0x41000000) = .window 1 ∧ s.record 1 = some winC) ∧
    winC.laneRefusal 0xC000 = some .checkLane ∧ winC.laneRefusal 0x4000 = some .laneSplit ∧
    winC.laneRefusal 0x3FFF = none ∧ { act with suspects := [0x4100000] }.listed 0x4100000 := by decide +kernel

/-- The first lane and the last in each test. -/
theorem witness_LaneTestsReadTheEnables :
    win.laneRefusal 0x0001 = some .laneSplit ∧ win.laneRefusal 0x8000 = some .laneSplit ∧
    win.laneRefusal 0xFFFF = none ∧ winC.laneRefusal 0xC000 = some .checkLane ∧
    { winC with format := .u32 }.laneRefusal 0xF000 = some .checkLane ∧
    { winC with format := .u32 }.laneRefusal 0x0FFF = none ∧
    { win with function := .difference }.laneRefusal 0x000C = some .oddLane ∧
    { win with function := .difference }.laneRefusal 0x3000 = none ∧
    { winC with function := .difference }.laneRefusal 0x3000 = some .oddLane ∧
    { winC with function := .extreme }.laneRefusal 0xC000 = none := by decide +kernel

/-- Each place, a listed line and a head that stalls; lanes at the ends of the data lanes and of the held bytes. -/
theorem witness_WindowReadAnsweredOrQueued :
    let h : Hold := ⟨0x4000000, 0⟩
    (∀ s ∈ [act, ent (.fetchWait h []), ent (.fetching h [] 0), ent (.wbWait h 0 none false),
        ent (.writing h 0 none false false 0 0)],
      s.serves 9 ∧ s.classify (lineOf 0x40000000) = .window 0 ∧ s.record 0 = some win ∧ s.listed 0x4000000 = false ∧
        s.headTakeable 0x4000000) ∧
    (let s := { act with suspects := [0x4000000] }
     s.serves 9 ∧ s.classify (lineOf 0x40000000) = .window 0 ∧ s.listed 0x4000000) ∧
    ((swept sw).serves 9 ∧ (swept sw).classify (lineOf 0x40000000) = .window 0 ∧ (swept sw).listed 0x4000000 = false ∧
      (swept sw).headTakeable 0x4000000 = false) ∧
    act.place 0x4000000 = .openAt 0 ∧ (ent (.fetchWait h [])).place 0x4000000 = .join 0 ∧
    (ent (.fetching h [] 0)).place 0x4000000 = .join 0 ∧ (ent (.wbWait h 0 none false)).place 0x4000000 = .apply 0 ∧
    (ent (.writing h 0 none false false 0 0)).place 0x4000000 = .apply 0 ∧
    (∀ f ∈ [Format.u16, .s16], ∀ i ∈ [0, 1, 2, 3, 6],
      let r := { win with function := .extreme, format := f }
      i < r.format.lanes ∧ r.format ≠ .u32 ∧ i < r.dataLanes ∧ r.dataLanes ≤ 7) ∧
    (6 < winC.dataLanes ∧ winC.dataLanes ≤ 7 ∧ 7 < winC.format.lanes) ∧
    { win with function := .extreme, format := .s16 }.clearedLine = lanes [32767, 65535, -32768, 65535] := by
  decide +kernel

theorem witness_StatusReadClearsTheFlags : act.serves 9 ∧ pass.serves 9 := by decide +kernel

theorem witness_ProtectWriteTakesTheField :
    act.serves 9 ∧ act.passQueue.length < 8 ∧ { pass with boot.protect := true }.serves 9 ∧
      (let s := { act with passQueue := List.replicate 8 ⟨1, 1, .read⟩ }
       s.serves 9 ∧ 8 ≤ s.passQueue.length) := by decide +kernel

/-- PASS and ACTIVE; both bytes of a field; fields at the ends of lines 5 and 6; a window in service and one not. -/
theorem witness_LiveWriteTakesMasksAndIntervals :
    (∀ s ∈ [pass, act], s.serves 9 ∧ s.passQueue.length < 8 ∧ s.boot.protect = false) ∧
    touchedWindows 5 0x8001 = [0, 7] ∧ touchedWindows 6 0x8002 = [8, 15] ∧ (act.inService 0).isSome ∧
    act.inService 7 = none ∧
    (let t := after (.liveSettingWrite 9 5 0x0003 10) act
     (t.live.intervalField 0).toNat = 10 ∧ t.intervals[0] = 10) ∧
    (let t := after (.liveSettingWrite 9 5 0x0003 9) act
     (t.live.intervalField 0).toNat = 9 ∧ t.intervals[0] = 0) := by decide +kernel

theorem witness_ControlAreaWriteIsForwarded :
    act.serves 9 ∧ act.passQueue.length < 8 ∧ act.boot.protect = false ∧
      (∀ k ∈ [(3 : Fin 42), 7, 41], 3 ≤ k.val ∧ (k.val = 3 ∨ 7 ≤ k.val)) ∧
      (let s := { act with passQueue := List.replicate 8 ⟨1, 1, .read⟩ }
       s.serves 9 ∧ s.boot.protect = false ∧ 8 ≤ s.passQueue.length) := by decide +kernel

theorem witness_HeadHeldThenReexamined :
    (∀ p ∈ [PartState.boot, .loading, .draining],
      let s := { act with partState := p }
      s.head = none ∧ s.bootStage ≠ .inReset ∧ s.examines = false) ∧
    State.reset.bootStage = .inReset ∧
    (let s := { act with head := some ⟨9, 0x50000000, .read⟩ }
     s.head.isSome ∧ s.bootStage ≠ .inReset ∧ s.examines ∧ s.outstanding.contains 9 = false ∧
       s.classify (lineOf 0x50000000) = .pass ∧ s.passQueue.length < 8 ∧ s.sweepReady = false ∧ s.repairReady = false ∧
       s.eventReady = false) ∧
    (let s := { swept sw with head := some ⟨9, 0x40000000, .read⟩ }
     s.classify (lineOf 0x40000000) = .window 0 ∧ s.sweepReady) := by decide +kernel

/-! The command line. -/

theorem witness_commandsTaken : pass.takesCommand 9 ∧ act.takesCommand 9 ∧ pass.partState = .pass ∧
    act.partState = .active := by decide +kernel

theorem witness_ArmEntersLoading : pass.takesCommand 9 ∧ pass.partState = .pass := by decide +kernel

/-- A sweep in LINES, one that has produced its closing header, and one whose closing header has its tag. -/
theorem witness_DisarmEntersDraining :
    (swept sw).takesCommand 9 ∧ (swept sw).partState = .active ∧
    ¬(sw.phase = .closing ∧ sw.endGranted) ∧
    ¬({ sw with phase := .closing, endHeader := .produced }.endGranted) ∧
    { sw with phase := .closing, endHeader := .produced, issued := [(0, .ending)] }.endGranted ∧
    { sw with inFlight := .accepted }.atDisarm.inFlight = .accepted := by decide +kernel

theorem witness_RearmSetsTheFlags :
    act.takesCommand 9 ∧ act.partState = .active ∧ (act.record 0).isSome ∧ act.record 15 = none ∧
    (cw 15 0 0).window.toNat = (15 : WindowNo).val ∧ 16 ≤ (cw 16 0 0).window.toNat ∧
    (cw 0xFE 0 0).window.toNat ≤ 0xFE ∧ (cw 0xFF 0 0).window = 0xFF := by decide +kernel

/-- Actions 0 to 4; windows 15, 16, FEh and FFh; a window eligible, one in service without a shadow to copy to, one queued. -/
theorem witness_SweepCommandHandsRequests :
    act.takesCommand 9 ∧ act.partState = .active ∧ (0 : Byte) ∉ [(1 : Byte), 2, 3] ∧ (4 : Byte) ∉ [(1 : Byte), 2, 3] ∧
    SweepAction.ofCode 3 = some .clear ∧ act.inService 0 = some win ∧ win.shadowBase ≠ 0 ∧ act.inService 15 = none ∧
    act.sweepQueue.length < 16 ∧ (act.sweepQueue.map (·.window)).Nodup ∧
    (let s := { act with sweepQueue := [⟨0, .copy, .chord⟩] }
     s.sweepQueue.any (fun p => p.window == 0) ∧ s.record 0 = some win ∧ (s.sweepQueue.map (·.window)).Nodup) ∧
    (let s := { pass with partState := .active }
     s.takesCommand 9 ∧ ∀ w : WindowNo, s.inService w = none) := by decide +kernel

theorem witness_ReleaseCommandClaims :
    { act with suspects := [0x4100001] }.takesCommand 9 ∧ lineOf 0x4100001F ∈ [(0x4100001 : LineAddr)] ∧
    lineOf 0x41000020 ∉ [(0x4100001 : LineAddr)] := by decide +kernel

theorem witness_BadOrMistimedCommandsDoNothing :
    (∀ s ∈ [pass, act], s.takesCommand 9) ∧ (∀ code ∈ [(0 : Byte), 7, 0xFF], code = 0 ∨ 7 ≤ code.toNat) := by
  decide +kernel

/-! Claims and sweeps. -/

/-- ACTIVE with the Event Input Unit's claim, the line at each place and listed. -/
def claimed (e : Entry) (l : List LineAddr) : State :=
  { ev 0 ⟨0, 15, .inactive, 0⟩ with eventClaim := some 0, entries := act.entries.set 0 e, suspects := l }

theorem witness_EventClaimBecomesAnUpdate :
    let h : Hold := ⟨0x4000001, 0⟩
    (∀ s ∈ [claimed .free [], claimed (.fetchWait h []) [], claimed (.fetching h [] 0) [],
        claimed (.wbWait h 0 none false) [], claimed (.writing h 0 none false false 0 0) [], claimed .free [0x4000001]],
      s.partState = .active ∧ s.eventClaim = some 0 ∧ s.bindings[0] = some bind0 ∧ s.record bind0.window = some win ∧
        s.eventReady ∧ s.sweepReady = false ∧ s.repairReady = false ∧ s.newCounts = 0) ∧
    { claimed .free [] with engine := some sw }.sweepReady ∧ { claimed .free [] with releaseClaim := some 5 }.repairReady :=
  by decide +kernel

theorem witness_EventClaimBecomesAnUpdate_places :
    let h : Hold := ⟨0x4000001, 0⟩
    (claimed .free []).place 0x4000001 = .openAt 0 ∧ (claimed (.fetchWait h []) []).place 0x4000001 = .join 0 ∧
    (claimed (.fetching h [] 0) []).place 0x4000001 = .join 0 ∧
    (claimed (.wbWait h 0 none false) []).place 0x4000001 = .apply 0 ∧
    (claimed (.writing h 0 none false false 0 0) []).place 0x4000001 = .apply 0 := by decide +kernel

/-- Input 1's claim is taken while input 0 has a count and a rise of input 2 is due: the unit claims input 0 at once. -/
theorem test_nextClaimAtOnce :
    let s := { act with
      bindings := ((act.bindings.set 0 (some bind0)).set 1 (some bind0)).set 2 (some bind0), levels := some 0
      eventClaim := some 1, servicePos := 1
      inputs := ((act.inputs.set 0 ⟨0, 3, .inactive, 0⟩).set 1 ⟨0, 1, .inactive, 0⟩).set 2 ⟨1, 0, .inactive, 0⟩ }
    s.edgeDue 2 ∧ (after .eventClaimTaken s).eventClaim = some 0 := by decide +kernel

/-- Each action at the first line and at the last two, on a listed line and at each place. -/
theorem witness_SweepClaimResolves :
    (∀ a ∈ [SweepAction.copy, .copyClear, .clear], ∀ n ∈ [0, 2, 3],
      let x := { sw with action := a, nextIndex := n }
      (swept x).partState = .active ∧ (swept x).engine = some x ∧ (swept x).record x.window = some win ∧
        x.inFlight = .claimWaiting ∧ x.abandoning = false) ∧
    2 + 1 < win.length ∧ win.length ≤ 3 + 1 ∧ (swept sw).place 0x4000000 = .openAt 0 ∧
    (swept sw).freeEntry = some 0 ∧
    (∀ e ∈ [Entry.fetchWait ⟨0x4000000, 0⟩ [], .fetching ⟨0x4000000, 0⟩ [] 0],
      { swept sw with entries := act.entries.set 0 e }.place 0x4000000 = .join 0) ∧
    (∀ e ∈ [Entry.wbWait ⟨0x4000000, 0⟩ 5 none false, .writing ⟨0x4000000, 0⟩ 5 none false false 5 0],
      { swept sw with entries := act.entries.set 0 e }.place 0x4000000 = .apply 0) ∧
    win.base + BitVec.ofNat 28 3 ∈ [(0x4000003 : LineAddr)] ∧
    (let t := after .sweepClaimTaken
       { swept { sw with nextIndex := 3 } with entries := act.entries.set 0 (.wbWait ⟨0x4000003, 0⟩ 5 none false) }
     t.entries[0] = .wbWait ⟨0x4000003, 0⟩ 0 none false ∧
       t.engine.map (fun x => (x.phase, x.waiting)) = some (.closing, [⟨.line 3, 0x4800004, 5⟩])) := by decide +kernel

theorem witness_ReleaseClaimRepairsTheLine :
    ∀ l ∈ [[], [(0x4100001 : LineAddr)]],
      let s := { act with suspects := l, releaseClaim := some 0x4100001 }
      s.partState = .active ∧ s.releaseClaim = some 0x4100001 ∧ s.freeEntry = some 0 ∧ s.windowOf 0x4100001 = some 1 ∧
        s.record 1 = some winC ∧ s.sweepReady = false ∧ { s with engine := some sw }.sweepReady := by decide +kernel

theorem witness_SweepStartsWithItsHeader :
    ∀ a ∈ [SweepAction.copy, .clear],
      let s := { act with sweepQueue := [⟨1, a, .command⟩] }
      s.partState = .active ∧ s.engine = none ∧ s.record 1 = some winC := by decide +kernel

theorem witness_SweepClosesAfterItsHeader :
    let x := { sw with phase := .closing }
    (swept x).engine = some x ∧ x.abandoning = false ∧ x.action ≠ .clear ∧ x.endHeader = .notProduced ∧ x.waiting = [] ∧
      x.issued = [] ∧ (swept x).record x.window = some win ∧
      { x with endHeader := .answered true }.endHeader = .answered true := by decide +kernel

theorem witness_AbandonedSweepEnds :
    ∀ a ∈ [SweepAction.copy, .clear], ∀ e ∈ [EndHeader.notProduced, .answered false, .answered true],
      let x := { sw with action := a, endHeader := e, abandoning := true, inFlight := .none }
      (swept x).engine = some x ∧ x.abandoning ∧ x.inFlight = .none ∧ x.waiting = [] ∧ x.issued = [] ∧
        (swept x).record x.window = some win := by decide +kernel

/-! The Downstream Port. -/

/-- A waiter of each class as the next one, the lowest FREE tag being 1. -/
theorem witness_PortGrantFollowsTheOrder :
    let tags := act.tags.set 0 .retired
    let w : ShadowWrite := ⟨.line 0, 0x4800001, 5⟩
    let x := { sw with waiting := [w] }
    (tags[1] = .free ∧ ∀ e : DownTag, e < 1 → tags[e] ≠ .free) ∧
    { act with tags := tags, statusEntry := .wbWait none }.nextWaiter = some .writebackStatus ∧
    { act with tags := tags, commandEntry := .wbWait none }.nextWaiter = some .writebackCommand ∧
    (ent (.wbWait ⟨0x4000000, 0⟩ 0 none false)).nextWaiter = some (.writeback 0) ∧
    (ent (.fetchWait ⟨0x4000000, 0⟩ [])).nextWaiter = some (.fetch 0) ∧
    { act with passQueue := [⟨9, 5, .read⟩] }.nextWaiter = some (.pass ⟨9, 5, .read⟩ []) ∧
    (swept x).nextWaiter = some (.shadow x w []) ∧
    { act with logQueue := [.record 3 ⟨.state, none, 0, 0, 3⟩] }.nextWaiter
      = some (.log 3 ⟨.state, none, 0, 0, 3⟩ []) ∧
    { act with setup := act.setup.set 41 .waiting }.nextWaiter = some (.setup 41) ∧
    (let o : ShadowWrite := ⟨.opening, 0x4800000, 5⟩
     (after .portGrant (swept { sw with phase := .opening, inFlight := .none, waiting := [o] })).engine.map
       (fun x => (x.phase, x.inFlight, x.issued)) = some (.lines, .claimWaiting, [(0, .opening)])) ∧
    { act with entries := (act.entries.set 4 (.fetchWait ⟨0x4000000, 0⟩ [])).set 2 (.fetchWait ⟨0x4000001, 0⟩ []) }.nextWaiter
      = some (.fetch 2) ∧
    { act with boot.portOrder := .b }.boot.portOrder = .b := by decide +kernel

theorem witness_SignalsMoveAndLateResponsesEnd :
    { act with dreq := [⟨0, 1, .read⟩] }.dreq = ⟨0, 1, .read⟩ :: [] ∧
    { act with responses := [⟨1, .okay, none⟩] }.responses = ⟨1, .okay, none⟩ :: [] ∧ act.bootStage ≠ .inReset ∧
    { act with tags := act.tags.set 31 .retired }.tags[31] = .retired ∧ act.tags[31] = .free := by decide +kernel

theorem witness_PassResponseIsForwarded :
    ∀ b ∈ [true, false],
      let s := out { act with outstanding := [9] } (.pass 9) b 0x5000000
      s.bootStage ≠ .inReset ∧ s.tags[0] = .outstanding ⟨.pass 9, b, 0x5000000, 0, false⟩ := by decide +kernel

theorem witness_FetchCompletionAppliesTheQueue :
    (∀ q ∈ [[], [Item.read 9], [.update .up 1 1]],
      let s := out (ent (.fetching ⟨0x4100000, 1⟩ q 0)) (.fetch 0) false 0x4100000
      s.bootStage ≠ .inReset ∧ s.tags[0] = .outstanding ⟨.fetch 0, false, 0x4100000, 0, false⟩ ∧
        s.entries[0] = .fetching ⟨0x4100000, 1⟩ q 0 ∧ s.record 1 = some winC ∧
        checkPasses s.boot.polynomial (winC.fillHeld .a 0)) ∧
    (∀ a ∈ [SweepAction.copy, .copyClear, .clear], ∀ n ∈ [2, 3],
      let x := { sw with action := a, nextIndex := n, inFlight := .accepted }
      (swept x).record 0 = some win ∧ (swept x).engine = some x ∧ (swept x).record x.window = some win ∧
        x.abandoning = false) ∧ 2 + 1 < win.length ∧ ¬3 + 1 < win.length := by decide +kernel

theorem witness_FetchFaultDisposesOfTheQueue :
    let s := out (ent (.fetching ⟨0x4100000, 1⟩ [.read 9, .update .up 1 1] 0)) (.fetch 0) false 0x4100000
    s.bootStage = .formed ∧ s.logStyle = .wrap ∧ s.logQueue = [] ∧
      s.tags[0] = .outstanding ⟨.fetch 0, false, 0x4100000, 0, false⟩ ∧ s.record 1 = some winC ∧ winC.check ∧
      checkPasses s.boot.polynomial 0 = false ∧ s.suspects.length < 8 ∧
      8 ≤ { s with suspects := [1, 2, 3, 4, 5, 6, 7, 8] }.suspects.length := by decide +kernel

theorem witness_WritebackEndFreesOrRewrites :
    (∀ m ∈ [true, false], ∀ d ∈ [true, false],
      let s := out (ent (.writing ⟨0x4000000, 0⟩ 6 none m d 5 0)) (.writeback (.general 0)) true 0x4000000
      s.bootStage ≠ .inReset ∧ s.tags[0] = .outstanding ⟨.writeback (.general 0), true, 0x4000000, 0, false⟩ ∧
        s.entries[0] = .writing ⟨0x4000000, 0⟩ 6 none m d 5 0) ∧
    (∀ d ∈ [true, false],
      let s := out { act with statusEntry := .writing none d (act.statusCopy 9) 0 } (.writeback .status) true 0
      s.statusEntry = .writing none d (act.statusCopy 9) 0 ∧
        statusPart (act.statusCopy 9) = statusPart (s.statusCopy 0)) ∧
    (∀ p ∈ [(0 : BitVec 13), 0x10],
      let u := { act with logStyle := .off, flags := ⟨0, 0, p⟩ }
      let s := out { u with statusEntry := .writing none false (u.statusCopy 9) 0 } (.writeback .status) true 0
      s.bootStage = .formed ∧ s.logStyle = .off ∧ statusPart (u.statusCopy 9) = statusPart (s.statusCopy 0) ∧
        (after (.writebackResponse ⟨0, 2, 0⟩) s).statusEntry =
          if p = 0 then .wbWait (some (u.statusCopy 9)) else .held (u.statusCopy 9)) ∧
    (let s := out { act with commandEntry := .writing none false act.command.encode 0 } (.writeback .command) true 1
     s.commandEntry = .writing none false act.command.encode 0) := by decide +kernel

theorem witness_ShadowLogAndSetupAnswers :
    let x := { sw with issued := [(0, .line 3)] }
    (out (swept x) (.shadow 0 (.line 3)) true 0x4800004).engine = some x ∧ (0, .line 3) ∈ x.issued ∧
    (∀ g ∈ [ShadowTarget.opening, .ending],
      let y := { sw with issued := [(0, g)] }
      let s := out (swept y) (.shadow 0 g) true 0x4800000
      s.engine = some y ∧ (0, g) ∈ y.issued ∧ s.tags[0] = .outstanding ⟨.shadow 0 g, true, 0x4800000, 0, false⟩) ∧
    (after (.shadowResponse ⟨0, 2, 0⟩) (out (swept { sw with issued := [(0, .opening)] }) (.shadow 0 .opening) true
      0x4800000)).engine.map (fun y => y.headerFailed) = some true ∧
    (out act (.log 3) true 0x2000103).tags[0] = .outstanding ⟨.log 3, true, 0x2000103, 0, false⟩ ∧
    (out act (.setup 41) false 41).tags[0] = .outstanding ⟨.setup 41, false, 41, 0, false⟩ := by decide +kernel

/-! Shared operations and invariants. -/

/-- Each style, held counts of 31 and 32, and a log queue of three and of four. -/
theorem witness_IncidentsAcceptedInOrder :
    (∀ y ∈ [LogStyle.off, .wrap, .keepFirst], ∀ h ∈ [31, 32],
      { act with logStyle := y, logHeld := h }.bootStage = .formed) ∧
    ({ act with logStyle := .keepFirst, logHeld := 31 }.report .state none 0 3).logHeld = 32 ∧
    ({ act with logStyle := .keepFirst, logHeld := 32 }.report .state none 0 3).flags.part = 0x200 ∧
    ({ act with logQueue := List.replicate 3 (.kept ⟨.state, none, 0, 0, 3⟩) }.report .state none 0 3).logQueue.length
      = 4 ∧
    ({ act with logQueue := List.replicate 4 (.kept ⟨.state, none, 0, 0, 3⟩) }.report .state none 0 3).flags.part
      = 0x400 := by decide +kernel

theorem witness_CheckValueIsTheCrc : winC.check = true := rfl

/-- A crossing at the threshold and none one below it, in each mode, with the crossing-armed flag set and clear. -/
theorem witness_UpdatesComputeEachLane_crossings :
    let h : Hold := ⟨0x4000000, 0⟩
    act.record h.window = some win ∧ win.crossingMode = .each ∧ win.watched 3 (lanes [99, 98]) (lanes [100, 99])
      = [⟨0, 99, 100⟩, ⟨1, 98, 99⟩] ∧
    (act.applyItem h (.update .up (lanes [1, 1]) 3) (lanes [99, 98])).2.flags.window = 1 ∧
    (act.applyItem h (.update .up (lanes [1, 1]) 3) (lanes [99, 99])).2.logQueue.map
      (fun e => (e.incident.addr, e.incident.detail)) = [(0x40000000, 100), (0x40000001, 100)] ∧
    (act.applyItem h (.update .up (lanes [1, 1]) 3) (lanes [98, 98])).2 = act ∧
    (∀ m ∈ [CrossingMode.off, .first, .each], ∀ b ∈ [true, false],
      let s := { act with windows := act.windows.set 0 ⟨some { win with crossingMode := m }, b, 0⟩ }
      s.record h.window = some { win with crossingMode := m } ∧ s.windows[h.window].armed = b) ∧
    (let s := { act with windows := act.windows.set 0 ⟨some { win with crossingMode := .first }, true, 0⟩ }
     let t := (s.applyItem h (.update .up (lanes [1, 1]) 3) (lanes [99, 99])).2
     t.windows[0].armed = false ∧ t.logQueue.length = 1) := by decide +kernel

theorem witness_UpdatesComputeEachLane :
    (win.function = .accumulate ∧ 7 < win.format.lanes ∧ win.format.signed = false) ∧
    { win with function := .weighted, format := .u32 }.format.lanes = 4 ∧
    ({ win with function := .difference }.function = .difference ∧ 6 % 2 = 0 ∧ (0x40#8).getLsbD 6) := by decide

/-- A sample below the stored minimum and above the stored maximum, and none. -/
theorem witness_ExtremeKeepsTheLeastAndGreatest :
    let r := { win with function := .extreme, format := .s16 }
    r.function = .extreme ∧ r.format ≠ .u32 ∧
      readLane true 16 7 (lanes [0, 0, 0, 0, 0, 0, 0, -5]) < readLane true 16 0 r.clearedLine ∧
      readLane true 16 2 r.clearedLine < readLane true 16 7 (lanes [0, 0, 0, 0, 0, 0, 0, -5]) ∧
      readLane true 16 0 (lanes [3, 0, 3]) ≤ readLane true 16 7 (lanes [0, 0, 0, 0, 0, 0, 0, 3]) := by decide +kernel

/-- A command that is no reset, a reset, and each move of the part state by its command. -/
theorem witness_TablesChangeOnlyWhereStated :
    exec .portGrant act = .next act ∧ isReset .portGrant = false ∧ examinesUpstream .portGrant = false ∧
    exec .warmReset act = .next (after .warmReset act) ∧ isReset .warmReset = true ∧
    (∀ x ∈ [(Instr.bootEnd, booted .wait true, PartState.pass), (.bootEnd, booted .armAtBoot true, .loading),
        (.arm 4 (cw 0 0 0), pass, .loading), (.loadingComplete, loaded winFirst winSecond, .active),
        (.disarm 4 (cw 0 0 0), act, .draining), (.drainingEnd, { act with partState := .draining }, .pass)],
      (after x.1 x.2.1).partState = x.2.2) := ⟨rfl, rfl, rfl, rfl, rfl, by decide +kernel⟩

theorem witness_StepsKeepCapacities : act.WithinCapacities ∧ ∃ t, step act = .next t :=
  ⟨⟨by decide +kernel, by decide +kernel, by decide +kernel, by decide +kernel, by decide +kernel, by decide +kernel,
    by decide +kernel, by decide +kernel, by decide +kernel⟩, _, rfl⟩

theorem test_noEntryInUse : ∀ i : Fin 12, act.entries[i].hold? = none := by decide +kernel

theorem witness_StepsKeepLinesHeldOnce : act.LinesHeldOnce ∧ ∃ t, step act = .next t := by
  have none_held : ∀ (i : Fin 12) (h : Hold), act.entries[i].hold? ≠ some h := fun i h e => by
    rw [test_noEntryInUse i] at e; cases e
  refine ⟨⟨?_, ?_, by decide +kernel, ?_⟩, _, rfl⟩
  · intro i j h k hi; exact absurd hi (none_held i h)
  · intro i h hi; exact absurd hi (none_held i h)
  · intro h; exact absurd rfl h

/-- ACTIVE with entry 0 HELD, its image the copy as it stands. -/
def heldStatus : State := { act with statusEntry := .held (act.statusCopy 7) }

theorem witness_StepsKeepPinnedLinesAndAlert :
    heldStatus.PinnedAgree ∧ heldStatus.AlertRight ∧ ∃ t, step heldStatus = .next t := by
  refine ⟨⟨?_, ?_⟩, ?_, _, rfl⟩
  · intro image h
    have : act.statusCopy 7 = image := by injection h
    subst this
    decide +kernel
  · intro image h; cases h
  · show heldStatus.alert = heldStatus.alertJudged
    decide +kernel

end Sys2Proof.Tests
end

section
/-!
SUPPORT. The Window Decoder's classes read as conditions on the line (R6, Table 1-1), and the class each of them gives.
-/

namespace Sys2Proof.Machine

section Classes

variable {s : State} {l : LineAddr}

/-! ### The Control Area (R148) -/

theorem controlBase_toNat (s : State) : s.controlBase.toNat = s.setupSel.toNat * 2 ^ 25 := by
  rw [State.controlBase, BitVec.toNat_append, Nat.shiftLeft_eq, BitVec.toNat_ofNat, Nat.zero_mod, Nat.or_zero]

/-- The Control Area ends within the address space, so the number of its lines does not wrap. -/
theorem controlLine_toNat (s : State) (k : Fin 42) :
    (s.controlLine k.val).toNat = s.setupSel.toNat * 2 ^ 25 + k.val := by
  have hsel := s.setupSel.isLt
  have hk := k.isLt
  rw [State.controlLine, BitVec.toNat_add, BitVec.toNat_ofNat, controlBase_toNat]
  omega

theorem byteAddr_toNat (l : LineAddr) : (byteAddr l).toNat = l.toNat * 0x10 := by
  rw [byteAddr, BitVec.toNat_append, Nat.shiftLeft_eq, BitVec.toNat_ofNat, Nat.zero_mod, Nat.or_zero]

theorem eq_controlLine_of_controlIndex {k : Fin 42} (h : s.controlIndex l = some k) : l = s.controlLine k.val := by
  unfold State.controlIndex at h
  split at h
  · cases h
    rw [State.controlLine, BitVec.ofNat_toNat, BitVec.setWidth_eq, BitVec.add_comm, BitVec.sub_add_cancel]
  · cases h

theorem controlIndex_eq_none_iff : s.controlIndex l = none ↔ ∀ k : Fin 42, l ≠ s.controlLine k.val := by
  constructor
  · rintro h k rfl
    simp at h
  · intro h
    cases hk : s.controlIndex l with
    | none => rfl
    | some k => exact absurd (eq_controlLine_of_controlIndex hk) (h k)

/-! ### Regions (R33, R34) -/

theorem lineIn_iff (base : LineAddr) (len : Nat) (l : LineAddr) :
    lineIn base len l = true ↔ base.toNat ≤ l.toNat ∧ l.toNat < base.toNat + len := decide_eq_true_iff

theorem inLog_iff : s.inLog l = true ↔
    s.logStyle ≠ .off ∧ s.logBase.toNat ≤ l.toNat ∧ l.toNat < s.logBase.toNat + 32 := by
  simp [State.inLog, lineIn_iff]

theorem shadowHolds_iff (w : WindowNo) : s.shadowHolds l w = true ↔ ∃ r, s.record w = some r ∧
    r.shadowBase ≠ 0 ∧ r.shadowBase.toNat ≤ l.toNat ∧ l.toNat < r.shadowBase.toNat + (r.length + 1) := by
  unfold State.shadowHolds
  cases s.record w <;> simp [lineIn_iff]

theorem inShadow_iff : s.inShadow l = true ↔ s.partState = .active ∧ ∃ w, s.shadowHolds l w = true := by
  simp [State.inShadow, List.countP_eq_zero]

theorem windowHolds_iff (w : WindowNo) : s.windowHolds l w = true ↔ ∃ r, s.record w = some r ∧
    r.enable = true ∧ r.base.toNat ≤ l.toNat ∧ l.toNat < r.base.toNat + r.length := by
  have hservice : s.windowHolds l w = true ↔ ∃ r, s.inService w = some r ∧ lineIn r.base r.length l = true := by
    unfold State.windowHolds
    cases s.inService w <;> simp
  simp only [hservice, inService_iff, lineIn_iff, and_assoc]

theorem windowHolds_of_windowOf {w : WindowNo} (h : s.windowOf l = some w) : s.windowHolds l w = true :=
  List.find?_some (p := s.windowHolds l) h

theorem windowOf_eq_none_iff : s.windowOf l = none ↔ ∀ w, s.windowHolds l w = false := by
  simp [State.windowOf, List.find?_eq_none]

/-! ### The class of a line outside the Control Area, in the order of Table 1-1 -/

theorem classify_log (hc : s.controlIndex l = none) (hlog : s.inLog l = true) : s.classify l = .log := by
  simp [State.classify, hc, hlog]

theorem classify_shadow (hc : s.controlIndex l = none) (hlog : ¬s.inLog l = true) (hsh : s.inShadow l = true) :
    s.classify l = .shadow := by
  simp [State.classify, hc, hlog, hsh]

theorem classify_window {w : WindowNo} (hc : s.controlIndex l = none) (hlog : ¬s.inLog l = true)
    (hsh : ¬s.inShadow l = true) (hact : s.partState = .active) (hw : s.windowOf l = some w) :
    s.classify l = .window w := by
  simp [State.classify, hc, hlog, hsh, hact, hw]

theorem classify_pass (hc : s.controlIndex l = none) (hlog : ¬s.inLog l = true) (hsh : ¬s.inShadow l = true)
    (hw : s.partState = .active → s.windowOf l = none) : s.classify l = .pass := by
  by_cases hact : s.partState = .active
  · simp [State.classify, hc, hlog, hsh, hw hact]
  · simp [State.classify, hc, hlog, hsh, hact]

/-- Where a window in service holds the line in ACTIVE, the class is that of the first such window. -/
theorem classify_window_of_windowHolds {w : WindowNo} (hc : s.controlIndex l = none) (hlog : ¬s.inLog l = true)
    (hsh : ¬s.inShadow l = true) (hact : s.partState = .active) (hw : s.windowHolds l w = true) :
    ∃ v, s.windowHolds l v = true ∧ s.classify l = .window v := by
  cases hv : s.windowOf l with
  | none => simp [windowOf_eq_none_iff.1 hv w] at hw
  | some v => exact ⟨v, windowHolds_of_windowOf hv, classify_window hc hlog hsh hact hv⟩

end Classes

/-- Settles O20: each condition of Table 1-1 is the decoder's own test for its class. -/
theorem decoderFollowsTable1 : Obligations.DecoderFollowsTable1 := by
  intro s l
  refine ⟨fun k => ?_, ?_, fun hne => ?_⟩
  · rw [byteAddr_toNat, controlLine_toNat]
    omega
  · rintro k rfl
    exact classify_controlLine s k
  · have hc := controlIndex_eq_none_iff.2 hne
    simp only [← inLog_iff, ← shadowHolds_iff, ← inShadow_iff, ← windowHolds_iff]
    refine ⟨classify_log hc, classify_shadow hc, ?_, ?_⟩
    · rintro hlog hsh w ⟨hact, hw⟩
      obtain ⟨v, hv, hclass⟩ := classify_window_of_windowHolds hc hlog hsh hact hw
      exact ⟨v, ⟨hact, hv⟩, hclass⟩
    · intro hlog hsh hnone
      refine classify_pass hc hlog hsh fun hact => windowOf_eq_none_iff.2 fun w => ?_
      exact Bool.eq_false_iff.2 fun hw => hnone w ⟨hact, hw⟩

end Sys2Proof.Machine
end

section
/-!
SUPPORT. The lane tests of R11 and the lane set of R9 read off the single byte enables.
-/

namespace Sys2Proof.Machine

/-! ### The tests as conditions on the enabled bytes -/

/-- Every byte of lane `i` is enabled. -/
def Format.LaneWhole (f : Format) (e : Enables) (i : Nat) : Prop :=
  ∀ b < f.width / 8, e.getLsbD (i * (f.width / 8) + b) = true

/-- Some lane has a byte enabled and a byte not enabled. -/
def Format.LaneSplit (f : Format) (e : Enables) : Prop :=
  ∃ i < f.lanes, ∃ a < f.width / 8, ∃ b < f.width / 8,
    e.getLsbD (i * (f.width / 8) + a) = true ∧ e.getLsbD (i * (f.width / 8) + b) = false

/-- A byte that check holds is enabled, in a window whose function keeps its writes off those bytes. -/
def WindowRecord.CheckByteEnabled (r : WindowRecord) (e : Enables) : Prop :=
  r.check = true ∧ r.function ≠ .extreme ∧ (e.getLsbD 14 = true ∨ e.getLsbD 15 = true
    ∨ (r.format = .u32 ∧ (e.getLsbD 12 = true ∨ e.getLsbD 13 = true)))

/-- A DIFFERENCE window has a whole lane enabled that is odd, or whose odd partner is no data lane. -/
def WindowRecord.OddLaneEnabled (r : WindowRecord) (e : Enables) : Prop :=
  r.function = .difference ∧ ∃ i < r.format.lanes, r.format.LaneWhole e i ∧ (i % 2 = 1 ∨ r.dataLanes ≤ i + 1)

section LaneTests

variable {f : Format} {r : WindowRecord} {e : Enables}

/-! ### One lane's enables -/

theorem ne_zero_iff_exists_getLsbD {w : Nat} (v : BitVec w) : v ≠ 0 ↔ ∃ i < w, v.getLsbD i = true := by
  rw [Ne, BitVec.eq_of_getLsbD_eq_iff]
  simp

theorem getLsbD_laneEnables (w i : Nat) (e : Enables) {b : Nat} (hb : b < w / 8) :
    (laneEnables w i e).getLsbD b = e.getLsbD (i * (w / 8) + b) := by
  simp [laneEnables, hb]

theorem laneEnables_eq_allOnes_iff (i : Nat) :
    laneEnables f.width i e = BitVec.allOnes (f.width / 8) ↔ f.LaneWhole e i := by
  rw [BitVec.eq_of_getLsbD_eq_iff]
  refine forall₂_congr fun b hb => ?_
  rw [getLsbD_laneEnables _ _ _ hb, BitVec.getLsbD_allOnes, decide_eq_true hb]

theorem laneEnables_ne_zero_iff (i : Nat) :
    laneEnables f.width i e ≠ 0 ↔ ∃ a < f.width / 8, e.getLsbD (i * (f.width / 8) + a) = true := by
  rw [ne_zero_iff_exists_getLsbD]
  refine exists_congr fun a => and_congr_right fun ha => ?_
  rw [getLsbD_laneEnables _ _ _ ha]

/-! ### The lane set (R9) -/

/-- A fold that sets bit `i` for each listed `i` with a property leaves set what was set and those bits. -/
theorem getLsbD_foldl_setBit (p : Nat → Prop) [DecidablePred p] (is : List Nat) (acc : BitVec 8) {j : Nat}
    (hj : j < 8) : (is.foldl (fun acc i => if p i then acc ||| (1#8 <<< i) else acc) acc).getLsbD j = true ↔
      acc.getLsbD j = true ∨ (j ∈ is ∧ p j) := by
  induction is generalizing acc with
  | nil => simp
  | cons i is ih =>
    have hbit : (1#8 <<< i).getLsbD j = true ↔ j = i := by
      simp [BitVec.getLsbD_shiftLeft, BitVec.getLsbD_one]
      omega
    rw [List.foldl_cons, ih]
    by_cases hp : p i
    · rw [if_pos hp, BitVec.getLsbD_or, Bool.or_eq_true, hbit, List.mem_cons]
      constructor
      · rintro ((h | rfl) | ⟨h, hpj⟩)
        · exact .inl h
        · exact .inr ⟨.inl rfl, hp⟩
        · exact .inr ⟨.inr h, hpj⟩
      · rintro (h | ⟨h | h, hpj⟩)
        · exact .inl (.inl h)
        · exact .inl (.inr h)
        · exact .inr ⟨h, hpj⟩
    · have hne : p j → j ≠ i := by rintro hpj rfl; exact hp hpj
      rw [if_neg hp, List.mem_cons]
      refine or_congr_right (and_congr_left fun hpj => ?_)
      simp [hne hpj]

theorem getLsbD_laneSet_iff {i : Nat} (hi : i < 8) :
    (f.laneSet e).getLsbD i = true ↔ i < f.lanes ∧ f.LaneWhole e i := by
  rw [Format.laneSet, getLsbD_foldl_setBit _ _ _ hi]
  simp [laneEnables_eq_allOnes_iff]

/-! ### The tests (R11) -/

theorem splits_iff : f.splits e = true ↔ f.LaneSplit e := by
  simp only [Format.splits, List.any_eq_true, List.mem_range, Bool.and_eq_true, bne_iff_ne, laneEnables_ne_zero_iff,
    Ne, laneEnables_eq_allOnes_iff, Format.LaneSplit, Format.LaneWhole]
  push Not
  simp only [ne_eq, Bool.not_eq_true]
  constructor
  · rintro ⟨i, hi, ⟨a, ha, hon⟩, b, hb, hoff⟩
    exact ⟨i, hi, a, ha, b, hb, hon, hoff⟩
  · rintro ⟨i, hi, a, ha, b, hb, hon, hoff⟩
    exact ⟨i, hi, ⟨a, ha, hon⟩, b, hb, hoff⟩

theorem extractLsb'_two_ne_zero_iff (n : Nat) :
    e.extractLsb' n 2 ≠ 0 ↔ e.getLsbD n = true ∨ e.getLsbD (n + 1) = true := by
  rw [ne_zero_iff_exists_getLsbD]
  constructor
  · rintro ⟨i, hi, hon⟩
    obtain rfl | rfl : i = 0 ∨ i = 1 := by omega
    · exact .inl (by simpa using hon)
    · exact .inr (by simpa using hon)
  · rintro (hon | hon)
    · exact ⟨0, by decide, by simpa using hon⟩
    · exact ⟨1, by decide, by simpa using hon⟩

theorem touchesCheck_iff : r.touchesCheck e = true ↔ r.CheckByteEnabled e := by
  simp only [WindowRecord.touchesCheck, WindowRecord.CheckByteEnabled, Bool.and_eq_true, Bool.or_eq_true, bne_iff_ne,
    beq_iff_eq, extractLsb'_two_ne_zero_iff, and_assoc, or_assoc]

theorem Format.lanes_le (f : Format) : f.lanes ≤ 8 := by cases f <;> decide

theorem touchesOdd_laneSet_iff : r.touchesOdd (r.format.laneSet e) = true ↔ r.OddLaneEnabled e := by
  simp only [WindowRecord.touchesOdd, WindowRecord.OddLaneEnabled, Bool.and_eq_true, Bool.or_eq_true, beq_iff_eq,
    List.any_eq_true, List.mem_range, decide_eq_true_eq]
  refine and_congr_right fun _ => exists_congr fun i => ?_
  have hle := r.format.lanes_le
  constructor
  · rintro ⟨hi, hset, hodd⟩
    obtain ⟨hlane, hwhole⟩ := (getLsbD_laneSet_iff hi).1 hset
    exact ⟨hlane, hwhole, hodd⟩
  · rintro ⟨hlane, hwhole, hodd⟩
    have hi : i < 8 := by omega
    exact ⟨hi, (getLsbD_laneSet_iff hi).2 ⟨hlane, hwhole⟩, hodd⟩

/-! ### The reason a write is refused for, and what a write that passes enables -/

theorem laneRefusal_laneSplit (hs : r.format.LaneSplit e) : r.laneRefusal e = some .laneSplit := by
  rw [WindowRecord.laneRefusal, if_pos (splits_iff.2 hs)]

theorem laneRefusal_checkLane (hs : ¬r.format.LaneSplit e) (hc : r.CheckByteEnabled e) :
    r.laneRefusal e = some .checkLane := by
  rw [WindowRecord.laneRefusal, if_neg (mt splits_iff.1 hs), if_pos (touchesCheck_iff.2 hc)]

theorem laneRefusal_oddLane (hs : ¬r.format.LaneSplit e) (hc : ¬r.CheckByteEnabled e) (ho : r.OddLaneEnabled e) :
    r.laneRefusal e = some .oddLane := by
  rw [WindowRecord.laneRefusal, if_neg (mt splits_iff.1 hs), if_neg (mt touchesCheck_iff.1 hc),
    if_pos (touchesOdd_laneSet_iff.2 ho)]

theorem laneRefusal_none (hs : ¬r.format.LaneSplit e) (hc : ¬r.CheckByteEnabled e) (ho : ¬r.OddLaneEnabled e) :
    r.laneRefusal e = none := by
  rw [WindowRecord.laneRefusal, if_neg (mt splits_iff.1 hs), if_neg (mt touchesCheck_iff.1 hc),
    if_neg (mt touchesOdd_laneSet_iff.1 ho)]

theorem not_laneSplit_of_laneRefusal_none (h : r.laneRefusal e = none) : ¬r.format.LaneSplit e := fun hs => by
  rw [laneRefusal_laneSplit hs] at h; cases h

theorem not_checkByteEnabled_of_laneRefusal_none (h : r.laneRefusal e = none) : ¬r.CheckByteEnabled e := fun hc => by
  rw [laneRefusal_checkLane (not_laneSplit_of_laneRefusal_none h) hc] at h; cases h

/-- Byte `b` belongs to a lane of the line. -/
theorem Format.byte_lane_lt (f : Format) {b : Nat} (hb : b < 16) : b / (f.width / 8) < f.lanes := by
  cases f <;> simp only [Format.width, Format.lanes] <;> omega

/-- Without a split lane, an enabled byte's lane is whole. -/
theorem laneWhole_of_enabled (hs : ¬f.LaneSplit e) {b : Nat} (hb : b < 16) (hon : e.getLsbD b = true) :
    f.LaneWhole e (b / (f.width / 8)) := by
  intro c hc
  by_contra hoff
  refine hs ⟨b / (f.width / 8), f.byte_lane_lt hb, b % (f.width / 8), Nat.mod_lt _ (Nat.zero_lt_of_lt hc), c, hc, ?_,
    Bool.eq_false_iff.2 hoff⟩
  rwa [Nat.div_add_mod']

/-- Outside EXTREME, the lanes that are no data lanes are those of the bytes CHECK_LANE tests, so an enabled byte that
passes it lies in a data lane. -/
theorem byte_lane_lt_dataLanes (hc : ¬r.CheckByteEnabled e) (hf : r.function ≠ .extreme) {b : Nat} (hb : b < 16)
    (hon : e.getLsbD b = true) : b / (r.format.width / 8) < r.dataLanes := by
  have hdata : r.dataLanes = if r.check then r.format.lanes - 1 else r.format.lanes := by
    unfold WindowRecord.dataLanes
    split
    · exact absurd ‹_› hf
    · rfl
  have hne : ∀ n, e.getLsbD n = false → b ≠ n := by rintro n hoff rfl; simp [hon] at hoff
  cases hck : r.check with
  | false => simpa [hdata, hck] using r.format.byte_lane_lt hb
  | true =>
    simp only [WindowRecord.CheckByteEnabled, hck, hf, ne_eq, not_false_eq_true, true_and, not_or, not_and,
      Bool.not_eq_true] at hc
    obtain ⟨h14, h15, h32⟩ := hc
    have hb14 := hne 14 h14
    have hb15 := hne 15 h15
    rw [hdata, if_pos hck]
    cases hfmt : r.format with
    | u16 | s16 => simp only [Format.width, Format.lanes]; omega
    | u32 =>
      have hb12 := hne 12 (h32 hfmt).1
      have hb13 := hne 13 (h32 hfmt).2
      simp only [Format.width, Format.lanes]; omega

end LaneTests

/-- Settles O25: the three tests read byte by byte, in their order, and what passing them leaves. -/
theorem laneTestsReadTheEnables : Obligations.LaneTestsReadTheEnables := by
  intro r e
  refine ⟨laneRefusal_laneSplit, laneRefusal_checkLane, laneRefusal_oddLane, laneRefusal_none, ?_,
    fun i hi => getLsbD_laneSet_iff hi⟩
  intro hnone b hb hon
  exact ⟨laneWhole_of_enabled (not_laneSplit_of_laneRefusal_none hnone) hb hon,
    fun hf => byte_lane_lt_dataLanes (not_checkByteEnabled_of_laneRefusal_none hnone) hf hb hon⟩

end Sys2Proof.Machine
end

section
/-!
SUPPORT. The check value as one fold over the 112 bits of bytes 0–13, and what filling a line leaves of it (R94, R96,
R97).
-/

namespace Sys2Proof.Machine

section CheckValue

variable (p : Polynomial) (l : Line)

/-! ### The check value bit by bit (R94) -/

/-- Bit `k` of a line in the order the check value takes them: byte 0 first, each byte most significant bit first. -/
def streamBit (k : Nat) : Bool := l.getLsbD (8 * (k / 8) + (7 - k % 8))

theorem streamBit_of_byte (n : Nat) {j : Nat} (hj : j < 8) :
    streamBit l (8 * n + j) = (byteAt l n).getLsbD (7 - j) := by
  have hbyte : (8 * n + j) / 8 = n := by omega
  have hbit : (8 * n + j) % 8 = j := by omega
  have hlt : 7 - j < 8 := by omega
  rw [streamBit, hbyte, hbit, byteAt, BitVec.getLsbD_extractLsb', decide_eq_true hlt, Bool.true_and]

theorem crcBit_eq_ite_getLsbD (reg : BitVec 16) (bit : Bool) : crcBit p reg bit =
    if reg.getLsbD 15 != bit then (reg <<< 1) ^^^ p.constant else reg <<< 1 := by
  rw [crcBit, BitVec.msb_eq_getLsbD_last]

/-- A byte is its eight stream bits. -/
theorem crcByte_byteAt (reg : BitVec 16) (n : Nat) : crcByte p reg (byteAt l n) =
    (List.range 8).foldl (fun acc j => crcBit p acc (streamBit l (8 * n + j))) reg := by
  have horder : [7, 6, 5, 4, 3, 2, 1, 0] = (List.range 8).map (7 - ·) := rfl
  rw [crcByte, horder, List.foldl_map]
  refine List.foldl_ext _ _ _ fun acc j hj => ?_
  rw [streamBit_of_byte l n (List.mem_range.1 hj)]

/-- Whole bytes taken in turn are their stream bits taken in turn. -/
theorem foldl_crcByte (reg : BitVec 16) (n : Nat) :
    (List.range n).foldl (fun acc i => crcByte p acc (byteAt l i)) reg =
      (List.range (8 * n)).foldl (fun acc k => crcBit p acc (streamBit l k)) reg := by
  induction n with
  | zero => rfl
  | succ n ih =>
    rw [List.range_succ, List.foldl_append, ih, List.foldl_cons, List.foldl_nil, crcByte_byteAt, Nat.mul_succ,
      List.range_add, List.foldl_append, List.foldl_map]

theorem checkValue_eq_foldl_streamBit :
    checkValue p l = (List.range 112).foldl (fun reg k => crcBit p reg (streamBit l k)) 0xFFFF#16 := by
  rw [checkValue, foldl_crcByte]

/-! ### Bytes 14 and 15 (R96, R97) -/

/-- The check value does not read what is put in bytes 14 and 15. -/
theorem checkValue_putBits_check (v : BitVec 16) : checkValue p (putBits 112 v l) = checkValue p l := by
  refine List.foldl_ext _ _ _ fun acc n hn => ?_
  have hn : n < 14 := List.mem_range.1 hn
  rw [byteAt, byteAt, extractLsb'_putBits_of_disjoint 112 v l _ _ (.inl (by omega)) (by omega)]

variable {r : WindowRecord}

theorem fillHeld_of_check (hck : r.check = true) :
    r.fillHeld p l = putBits 112 (checkValue p (r.zeroHeld l)) (r.zeroHeld l) := if_pos hck

/-- A line filled for a check-on window carries its own check value. -/
theorem fieldAt_fillHeld_check (hck : r.check = true) :
    fieldAt (r.fillHeld p l) 14 16 = checkValue p (r.fillHeld p l) := by
  rw [fillHeld_of_check p l hck, checkValue_putBits_check]
  exact extractLsb'_putBits_self 112 _ _ (by decide)

theorem checkPasses_iff : checkPasses p l = true ↔ fieldAt l 14 16 = checkValue p l := beq_iff_eq

/-- The bytes of a two-byte field, the low one first. -/
theorem byteAt_of_fieldAt (n : Nat) : byteAt l n = (fieldAt l n 16).extractLsb' 0 8 ∧
    byteAt l (n + 1) = (fieldAt l n 16).extractLsb' 8 8 := by
  have hpart (m : Nat) (hm : m + 8 ≤ 16) :
      l.extractLsb' (8 * n + m) 8 = (l.extractLsb' (8 * n) 16).extractLsb' m 8 := by
    refine BitVec.eq_of_getLsbD_eq fun i hi => ?_
    have hlt : m + i < 16 := by omega
    simp [hi, hlt, Nat.add_assoc]
  exact ⟨hpart 0 (by decide), hpart 8 (by decide)⟩

end CheckValue

/-- Settles O53: the model's fold over bytes is R94's fold over bits, and a filled line carries that value. -/
theorem checkValueIsTheCrc : Obligations.CheckValueIsTheCrc := by
  intro p r l
  refine ⟨?_, fun hck => ?_⟩
  · rw [checkValue_eq_foldl_streamBit]
    refine List.foldl_ext _ _ _ fun reg k _ => ?_
    rw [crcBit_eq_ite_getLsbD, streamBit]
    cases p <;> rfl
  · have hfield := fieldAt_fillHeld_check p l hck
    obtain ⟨hlow, hhigh⟩ := byteAt_of_fieldAt (r.fillHeld p l) 14
    rw [hfield] at hlow hhigh
    exact ⟨(checkPasses_iff p _).2 hfield, hlow, hhigh⟩

end Sys2Proof.Machine
end

section
/-!
SUPPORT. A command write taken at once is the command's own operation on the state `State.taken` leaves (R153), and what
REARM and LOG_RESET make of that state (R115, R157, R160).
-/

namespace Sys2Proof.Machine

section Rearm

variable {s : State} {b : Byte} {w : WindowNo}

/-! ### The window a command names -/

theorem windowNamed_eq_some_iff : windowNamed b = some w ↔ b.toNat = w.val := by
  have hw := w.isLt
  unfold windowNamed
  split
  · rw [Option.some_inj, Fin.ext_iff]
  · simp only [reduceCtorEq, false_iff]
    omega

theorem windowNamed_eq_none_iff : windowNamed b = none ↔ 16 ≤ b.toNat := by
  simp [windowNamed]

/-- FFh, the byte that names all windows, names no single one. -/
theorem ne_allWindows_of_toNat_le (h : b.toNat ≤ 0xFE) : b ≠ 0xFF := by
  rintro rfl
  exact absurd h (by decide)

/-! ### REARM in ACTIVE, by the window byte -/

theorem runRearm_allWindows (hact : s.partState = .active) : s.runRearm 0xFF = s.rearmAll.completeCommand .ok := by
  simp [State.runRearm, hact]

/-- Any byte but FFh is read as the window it names, if it names one. -/
theorem runRearm_of_ne_allWindows (hact : s.partState = .active) (hb : b ≠ 0xFF) : s.runRearm b =
    (windowNamed b).elim (s.completeCommand .badWindow) fun w =>
      if (s.record w).isSome then (s.setWindow w { s.windows[w] with armed := true }).completeCommand .ok
      else s.completeCommand .noWindow := by
  rw [State.runRearm, if_neg (not_not_intro hact), if_neg hb]
  cases windowNamed b <;> rfl

theorem runRearm_of_toNat_eq (hact : s.partState = .active) (hw : b.toNat = w.val) : s.runRearm b =
    if (s.record w).isSome then (s.setWindow w { s.windows[w] with armed := true }).completeCommand .ok
    else s.completeCommand .noWindow := by
  have hb : b ≠ 0xFF := ne_allWindows_of_toNat_le (by omega)
  rw [runRearm_of_ne_allWindows hact hb, windowNamed_eq_some_iff.2 hw, Option.elim_some]

theorem runRearm_badWindow (hact : s.partState = .active) (hlo : 16 ≤ b.toNat) (hhi : b.toNat ≤ 0xFE) :
    s.runRearm b = s.completeCommand .badWindow := by
  rw [runRearm_of_ne_allWindows hact (ne_allWindows_of_toNat_le hhi), windowNamed_eq_none_iff.2 hlo, Option.elim_none]

end Rearm

/-! ### Completion and LOG_RESET -/

/-- A completion writes the result, DONE and part flag 11, COMMAND_DONE (R153). -/
theorem completeCommand_eq (s : State) (r : CommandResult) : s.completeCommand r =
    { s with
      command := { s.command with result := r, state := .done }
      flags := { s.flags with part := s.flags.part ||| 0x800 } } := rfl

theorem runLogReset_eq (s : State) : s.runLogReset =
    { s with
      logHeld := 0
      command := { s.command with result := .ok, state := .done }
      flags := { s.flags with part := s.flags.part ||| 0x800 } } := by
  rw [State.runLogReset, completeCommand_eq]

section Taken

variable {s : State} {tag : UpTag} {cmd : CommandWrite}

/-! ### Taking a command -/

@[simp] theorem taken_partState (code : Byte) : (s.taken tag code cmd).partState = s.partState := rfl

@[simp] theorem taken_record (code : Byte) (w : WindowNo) : (s.taken tag code cmd).record w = s.record w := rfl

theorem exec_rearm_of_takesCommand (h : s.takesCommand tag) :
    exec (.rearm tag cmd) s = .next (s.commit ((s.taken tag 0x03 cmd).runRearm cmd.window)) := by
  rw [exec_rearm, arrive_command s tag 0x03 cmd h, finish_some]
  rfl

theorem exec_logReset_of_takesCommand (h : s.takesCommand tag) :
    exec (.logReset tag cmd) s = .next (s.commit (s.taken tag 0x06 cmd).runLogReset) := by
  rw [exec_logReset, arrive_command s tag 0x06 cmd h, finish_some]
  rfl

end Taken

/-- Settles O34: a taken REARM is `State.runRearm` on the state the write leaves, whose part state and windows are those
it found; the window byte picks the case. -/
theorem rearmSetsTheFlags : Obligations.RearmSetsTheFlags := by
  intro tag cmd s htakes hactive
  have hact : (s.taken tag 0x03 cmd).partState = .active := (taken_partState _).trans hactive
  rw [exec_rearm_of_takesCommand htakes]
  refine ⟨fun hall => ?_, fun w hw => ⟨fun hsome => ?_, fun hnone => ?_⟩, fun hlo hhi => ?_⟩
  · rw [hall, runRearm_allWindows hact]
    rfl
  · rw [runRearm_of_toNat_eq hact hw, taken_record, if_pos hsome]
    rfl
  · rw [runRearm_of_toNat_eq hact hw, taken_record, hnone, if_neg (by simp)]
  · rw [runRearm_badWindow hact hlo hhi]

/-- Settles O37: a taken LOG_RESET is `State.runLogReset` on the state the write leaves, which has the flags it
found and the command the write named. -/
theorem logResetZeroesTheHeldCount : Obligations.LogResetZeroesTheHeldCount := by
  intro tag cmd s htakes
  rw [exec_logReset_of_takesCommand htakes, runLogReset_eq]
  rfl

end Sys2Proof.Machine
end

section
/-!
SUPPORT. What becomes of an incident at the log, one lemma for each test of R163.
-/

namespace Sys2Proof.Machine

variable {s : State}

/-! ### The flags a discarded incident sets (R108) -/

theorem setPartFlag_logFull_eq (s : State) : s.setPartFlag .logFull =
    { s with flags := { s.flags with part := s.flags.part ||| 0x200 } } := rfl

theorem setPartFlag_logDropped_eq (s : State) : s.setPartFlag .logDropped =
    { s with flags := { s.flags with part := s.flags.part ||| 0x400 } } := rfl

/-! ### The tests of R163 -/

/-- Once BOOT has formed the status copy, an incident is taken as it is reported (R162). -/
theorem report_of_formed (h : s.bootStage = .formed) (kind : IncidentKind) (w : Option WindowNo) (a : ByteAddr)
    (detail : BitVec 32) : s.report kind w a detail = s.takeIncident ⟨kind, w, s.tick, a, detail⟩ := if_pos h

variable (i : Incident)

theorem takeIncident_of_off (h : s.logStyle = .off) : s.takeIncident i = s := if_pos h

theorem takeIncident_of_keepFirst_full (hstyle : s.logStyle = .keepFirst) (hheld : 32 ≤ s.logHeld) :
    s.takeIncident i = s.setPartFlag .logFull := by
  have hon : s.logStyle ≠ .off := by rw [hstyle]; decide
  rw [State.takeIncident, if_neg hon, if_pos ⟨hstyle, hheld⟩]

/-- Past the tests of the style and the held count, the places of the log queue decide. -/
theorem takeIncident_of_recording (h : s.logStyle = .wrap ∨ s.logStyle = .keepFirst ∧ s.logHeld < 32) :
    s.takeIncident i =
      if 4 ≤ s.logQueue.length then s.setPartFlag .logDropped
      else { s with
        logQueue := s.logQueue ++ [.record s.logNext i]
        logNext := s.logNext + 1
        logHeld := if s.logHeld < 32 then s.logHeld + 1 else s.logHeld } := by
  have hon : s.logStyle ≠ .off := by
    rcases h with hstyle | ⟨hstyle, _⟩ <;> rw [hstyle] <;> decide
  have hroom : ¬(s.logStyle = .keepFirst ∧ 32 ≤ s.logHeld) := by
    rintro ⟨hkeep, hfull⟩
    rcases h with hwrap | ⟨_, hheld⟩
    · rw [hwrap] at hkeep
      cases hkeep
    · omega
  rw [State.takeIncident, if_neg hon, if_neg hroom]

/-- Settles O52: after the status copy is formed a report is `State.takeIncident`, whose tests stand in the order of
R163. -/
theorem incidentsAcceptedInOrder : Obligations.IncidentsAcceptedInOrder := by
  intro s kind w a detail hformed
  rw [report_of_formed hformed]
  refine ⟨takeIncident_of_off _, fun hstyle hheld => ?_, fun hrec => ⟨fun hfull => ?_, fun hplace => ?_⟩⟩
  · rw [takeIncident_of_keepFirst_full _ hstyle hheld.ge, setPartFlag_logFull_eq]
  · rw [takeIncident_of_recording _ hrec, if_pos hfull.ge, setPartFlag_logDropped_eq]
  · rw [takeIncident_of_recording _ hrec, if_neg (Nat.not_le.2 hplace)]

end Sys2Proof.Machine
end

section
/-!
SUPPORT. The end of a step (`State.commit`): what it leaves of the state it ends, and the pinned lines and ALERT_N as it
leaves them (R87, R117).
-/

namespace Sys2Proof.Machine

/-! ### The answers of a step -/

/-- A step answers the state it was given with its front command taken off, a cycle's counts, or a state that ends by
`State.commit`. -/
theorem step_cases {s t : State} (h : step s = .next t) :
    (∃ rest, t = s.withPending rest) ∨ (∃ n, t = { s with cycles := n, ursp := none }) ∨
      ∃ u a : State, t = u.commit a := by
  unfold step at h
  split at h
  · injection h with h
    subst h
    unfold State.passCycle
    split
    · exact .inr (.inl ⟨s.cycles, rfl⟩)
    · split
      · exact .inr (.inr ⟨_, _, rfl⟩)
      · exact .inr (.inl ⟨_, rfl⟩)
  · rename_i c rest _
    obtain ⟨o, ho⟩ := exec_eq_finish (s.withPending rest) c
    rw [ho] at h
    cases o with
    | none =>
      injection h with h
      exact .inl ⟨rest, h.symm⟩
    | some a =>
      injection h with h
      exact .inr (.inr ⟨_, a, h.symm⟩)

/-! ### The pinned lines (R87) -/

variable {s t : State}

/-- An entry that follows its copy is HELD only where its image agrees with the copy as the step left it. -/
theorem PinnedEntry.follow_eq_held {same : Line → Line → Bool} {before after image : Line} {e : PinnedEntry}
    (h : e.follow same before after = .held image) : same image after = true := by
  cases e with
  | held x =>
    by_cases hx : same x after = true
    · rw [show (PinnedEntry.held x).follow same before after = .held x from if_pos hx] at h
      cases h
      exact hx
    · rw [show (PinnedEntry.held x).follow same before after = .wbWait (some x) from if_neg hx] at h
      cases h
  | empty | wbWait | writing => cases h

theorem commit_statusEntry : (s.commit t).statusEntry = t.statusEntry.follow
    (fun a b => statusPart a == statusPart b) (s.statusCopy 0) (t.statusCopy 0) := rfl

theorem commit_commandEntry : (s.commit t).commandEntry = t.commandEntry.follow (fun a b => a == b)
    s.commandCopy t.commandCopy := rfl

theorem commit_pinnedAgree : (s.commit t).PinnedAgree := by
  refine ⟨fun image h => ?_, fun image h => ?_⟩
  · rw [commit_statusEntry] at h
    exact eq_of_beq (PinnedEntry.follow_eq_held h)
  · rw [commit_commandEntry] at h
    exact eq_of_beq (PinnedEntry.follow_eq_held h)

/-! ### ALERT_N (R117) -/

theorem commit_alertRight : (s.commit t).AlertRight := rfl

/-- The mask of the 13 part flags is read on 16 bits, of which no flag reaches the upper three. -/
theorem setWidth_and_eq_zero_iff (part : BitVec 13) (mask : BitVec 16) :
    part.setWidth 16 &&& mask = 0 ↔ part &&& mask.setWidth 13 = 0 := by
  have hbits (i : Nat) : (part.setWidth 16 &&& mask).getLsbD i = (part &&& mask.setWidth 13).getLsbD i := by
    simp only [BitVec.getLsbD_and, BitVec.getLsbD_setWidth]
    by_cases hi : i < 13
    · simp [hi, show i < 16 by omega]
    · simp [BitVec.getLsbD_of_ge part i (by omega)]
  constructor
  · intro h
    exact BitVec.eq_of_getLsbD_eq fun i _ => by rw [← hbits, h]; simp
  · intro h
    exact BitVec.eq_of_getLsbD_eq fun i _ => by rw [hbits, h]; simp

theorem alertJudged_iff (s : State) : s.alertJudged = true ↔
    s.partState ≠ .boot ∧ (s.flags.window &&& fieldAt s.live.masks 0 16 ≠ 0
      ∨ s.flags.sweepDone &&& fieldAt s.live.masks 2 16 ≠ 0
      ∨ s.flags.part &&& (fieldAt s.live.masks 4 16).setWidth 13 ≠ 0) := by
  simp only [State.alertJudged, State.maskedFlags, LiveCopies.windowMask, LiveCopies.sweepDoneMask,
    LiveCopies.partMask, Bool.and_eq_true, Bool.or_eq_true, bne_iff_ne, ne_eq, setWidth_and_eq_zero_iff, or_assoc]

/-- Settles O59: what ends by `State.commit` has the pinned lines and ALERT_N right, and a step that answers otherwise
changes neither them nor what they are judged by. -/
theorem stepsKeepPinnedLinesAndAlert : Obligations.StepsKeepPinnedLinesAndAlert := by
  intro s t hpin halert hstep
  have hkeeps : t.PinnedAgree ∧ t.AlertRight := by
    obtain ⟨rest, rfl⟩ | ⟨n, rfl⟩ | ⟨u, a, rfl⟩ := step_cases hstep
    · exact ⟨hpin, halert⟩
    · exact ⟨hpin, halert⟩
    · exact ⟨commit_pinnedAgree, commit_alertRight⟩
  refine ⟨hkeeps.1, hkeeps.2, ?_⟩
  rw [show t.alert = t.alertJudged from hkeeps.2]
  exact alertJudged_iff t

end Sys2Proof.Machine
end

section
/-!
SUPPORT. Where the lines of the general entries and of the Suspect Line List come from: what each operation of the Open
Line Table leaves of the invariant that a line has one holder at most (R71, R99, R107).
-/

namespace Sys2Proof.Machine

variable {s t : State} {i : Fin 12} {k : Hold} {e : Entry}

/-! ### The invariant read from the holds alone -/

/-- The part states in which general entries may be in use and lines listed (R107). -/
def PartState.tabled (p : PartState) : Prop := p = .active ∨ p = .draining

theorem inUse_eq_zero_iff : s.inUse = 0 ↔ ∀ j : Fin 12, s.entries[j].hold? = none := by
  simp [State.inUse, List.countP_eq_zero, Entry.inUse]

theorem entries_set_getElem (s : State) (i j : Fin 12) (e : Entry) :
    (s.setEntry i e).entries[j] = if i = j then e else s.entries[j] := by
  simp only [State.setEntry, Fin.getElem_fin, Vector.getElem_set, Fin.val_inj]

/-- An entry in use is in use in ACTIVE or DRAINING. -/
theorem State.LinesHeldOnce.tabled_of_hold (h : s.LinesHeldOnce) (hk : s.entries[i].hold? = some k) :
    s.partState.tabled := by
  by_contra hp
  have hp' := not_or.1 hp
  have hnone := inUse_eq_zero_iff.1 (h.idle hp'.1 hp'.2).1 i
  rw [hk] at hnone
  cases hnone

theorem State.LinesHeldOnce.congr (h : s.LinesHeldOnce) (he : ∀ j : Fin 12, t.entries[j].hold? = s.entries[j].hold?)
    (hs : t.suspects = s.suspects) (hp : s.partState.tabled → t.partState.tabled) : t.LinesHeldOnce where
  entries := by simpa only [he] using h.entries
  listed := by simpa only [he, hs] using h.listed
  once := by simpa only [hs] using h.once
  idle := fun ha hd => by
    have hs' : ¬s.partState.tabled := fun hp' => (hp hp').elim ha hd
    have hidle := h.idle (fun ha => hs' (.inl ha)) (fun hd => hs' (.inr hd))
    simpa only [inUse_eq_zero_iff, he, hs] using hidle

/-- The invariant reads the entries, the list and the part state only. -/
theorem State.LinesHeldOnce.of_eq (h : s.LinesHeldOnce) (he : t.entries = s.entries) (hs : t.suspects = s.suspects)
    (hp : t.partState = s.partState) : t.LinesHeldOnce :=
  h.congr (fun j => by rw [he]) hs (by rw [hp]; exact id)

/-- With the list empty, the entries alone are in question. -/
theorem State.LinesHeldOnce.of_suspects_nil (h : s.LinesHeldOnce) (he : t.entries = s.entries) (hs : t.suspects = [])
    (hp : t.partState.tabled ∨ s.inUse = 0) : t.LinesHeldOnce where
  entries := by simpa only [he] using h.entries
  listed := by simp [hs]
  once := by simp [hs]
  idle := fun ha hd => ⟨by
    obtain hp | hp := hp
    · exact (hp.elim ha hd).elim
    · simpa only [inUse_eq_zero_iff, he] using hp, hs⟩

/-! ### One entry changed -/

/-- An entry may take a line that no other entry holds and that is not listed, in ACTIVE and DRAINING. -/
theorem State.LinesHeldOnce.setEntry (h : s.LinesHeldOnce) (hnew : ∀ k, e.hold? = some k →
    (∀ (j : Fin 12) (m : Hold), j ≠ i → s.entries[j].hold? = some m → m.line ≠ k.line) ∧ k.line ∉ s.suspects ∧
      s.partState.tabled) : (s.setEntry i e).LinesHeldOnce where
  entries := fun a b x y => by
    rw [entries_set_getElem, entries_set_getElem]
    split <;> split
    · rintro - - -
      simp_all
    · rename_i hb
      rintro hx hy hxy
      exact absurd hxy.symm ((hnew x hx).1 b y (Ne.symm hb) hy)
    · rename_i ha _
      rintro hx hy hxy
      exact absurd hxy ((hnew y hy).1 a x (Ne.symm ha) hx)
    · exact h.entries a b x y
  listed := fun a x => by
    rw [entries_set_getElem]
    split
    · exact fun hx => (hnew x hx).2.1
    · exact h.listed a x
  once := h.once
  idle := fun ha hd => by
    have hidle := h.idle ha hd
    refine ⟨inUse_eq_zero_iff.2 fun j => ?_, hidle.2⟩
    rw [entries_set_getElem]
    split
    · cases he : e.hold? with
      | none => rfl
      | some x => exact ((hnew x he).2.2.elim ha hd).elim
    · exact inUse_eq_zero_iff.1 hidle.1 j

theorem State.LinesHeldOnce.setEntry_free (h : s.LinesHeldOnce) : (s.setEntry i .free).LinesHeldOnce :=
  h.setEntry fun _ hk => by cases hk

/-- An entry that keeps its line. -/
theorem State.LinesHeldOnce.setEntry_same (h : s.LinesHeldOnce) (he : e.hold? = s.entries[i].hold?) :
    (s.setEntry i e).LinesHeldOnce :=
  h.congr (fun j => by rw [entries_set_getElem]; split <;> simp_all) rfl id

/-- An entry that takes a line none holds. -/
theorem State.LinesHeldOnce.setEntry_new (h : s.LinesHeldOnce) (hk : e.hold? = some k) (hn : s.entryOf k.line = none)
    (hl : k.line ∉ s.suspects) (hp : s.partState.tabled) : (s.setEntry i e).LinesHeldOnce := by
  refine h.setEntry fun x hx => ?_
  obtain rfl : k = x := Option.some.inj (hk.symm.trans hx)
  refine ⟨fun j m _ hm hline => ?_, hl, hp⟩
  have hnot := entryOf_none.1 hn j
  rw [(holds_iff k.line _).2 ⟨m, hm, hline⟩] at hnot
  cases hnot

theorem State.LinesHeldOnce.delist (h : s.LinesHeldOnce) (l : LineAddr) : (s.delist l).LinesHeldOnce where
  entries := h.entries
  listed := fun j x hx hmem => h.listed j x hx (List.mem_of_mem_filter hmem)
  once := h.once.filter _
  idle := fun ha hd => ⟨(h.idle ha hd).1, by simp [State.delist, (h.idle ha hd).2]⟩

/-! ### Items -/

theorem applyAt_hold (s : State) (i j : Fin 12) (x : Item) :
    (s.applyAt i x).entries[j].hold? = s.entries[j].hold? := by
  unfold State.applyAt
  split
  · rename_i hi
    rw [entries_set_getElem]
    split
    · subst j
      rw [hi]
      rfl
    · simp
  · rename_i hi
    rw [entries_set_getElem]
    split
    · subst j
      rw [hi]
      rfl
    · simp
  · rfl

theorem joinQueue_hold (s : State) (i j : Fin 12) (x : Item) :
    (s.joinQueue i x).entries[j].hold? = s.entries[j].hold? := by
  unfold State.joinQueue
  split
  · rename_i hi
    rw [entries_set_getElem]
    split
    · subst j
      rw [hi]
      rfl
    · rfl
  · rename_i hi
    rw [entries_set_getElem]
    split
    · subst j
      rw [hi]
      rfl
    · rfl
  · rfl

theorem State.LinesHeldOnce.applyAt (h : s.LinesHeldOnce) (x : Item) : (s.applyAt i x).LinesHeldOnce :=
  h.congr (fun j => applyAt_hold s i j x) (by simp) (by simp)

theorem State.LinesHeldOnce.joinQueue (h : s.LinesHeldOnce) (x : Item) : (s.joinQueue i x).LinesHeldOnce :=
  h.congr (fun j => joinQueue_hold s i j x) (by simp) (by simp)

/-- An unlisted line's item is accepted in ACTIVE. -/
theorem State.LinesHeldOnce.accept (h : s.LinesHeldOnce) (x : Item) (hl : k.line ∉ s.suspects)
    (hp : s.partState.tabled) : (s.accept k x).LinesHeldOnce := by
  unfold State.accept
  split
  · exact h.applyAt x
  · exact h.joinQueue x
  · rename_i hplace
    exact h.setEntry_new (k := k) rfl (place_openAt hplace).1 hl hp
  · exact h
  · exact h

theorem State.LinesHeldOnce.openCleared (h : s.LinesHeldOnce) (r : WindowRecord) (x : Item) (m : Bool)
    (hn : s.entryOf k.line = none) (hp : s.partState.tabled) : (s.openCleared i k r x m).LinesHeldOnce :=
  State.LinesHeldOnce.applyAt ((h.delist k.line).setEntry_new (k := k) rfl hn (by simp [State.delist]) hp) x

/-- A listed line has no entry. -/
theorem State.LinesHeldOnce.entryOf_of_mem (h : s.LinesHeldOnce) {l : LineAddr} (hl : l ∈ s.suspects) :
    s.entryOf l = none := by
  refine entryOf_none.2 fun j => ?_
  by_contra hj
  obtain ⟨m, hm, rfl⟩ := (holds_iff l _).1 (by simpa using hj)
  exact h.listed j m hm hl

/-! ### The end of a fetch and of a write-back -/

theorem State.LinesHeldOnce.fetchComplete (h : s.LinesHeldOnce) (hi : s.entries[i].hold? = some k) (q : List Item)
    (r : WindowRecord) (data : Line) : (s.fetchComplete i k q r data).LinesHeldOnce := by
  have happlied : ∀ c, (s.applyItems k q c).2.LinesHeldOnce := fun c => h.of_eq (by simp) (by simp) (by simp)
  unfold State.fetchComplete
  dsimp only
  split
  · exact (happlied _).setEntry_same (by simp only [applyItems_keeps, hi]; rfl)
  · exact (happlied _).setEntry_free

/-- A line no entry holds any more may be listed. -/
theorem State.LinesHeldOnce.listSuspect (h : s.LinesHeldOnce) (hn : ∀ (j : Fin 12) (m : Hold),
    s.entries[j].hold? = some m → m.line ≠ k.line) (hl : k.line ∉ s.suspects) (hp : s.partState.tabled) :
    (s.listSuspect k).LinesHeldOnce := by
  unfold State.listSuspect
  split
  · exact {
      entries := h.entries
      listed := fun j m hm hmem => by
        obtain hmem | hmem := List.mem_append.1 hmem
        · exact h.listed j m hm hmem
        · exact hn j m hm (List.mem_singleton.1 hmem)
      once := by
        rw [List.nodup_append]
        refine ⟨h.once, List.nodup_singleton _, ?_⟩
        rintro a ha b hb rfl
        rw [List.mem_singleton.1 hb] at ha
        exact hl ha
      idle := fun ha hd => (hp.elim ha hd).elim }
  · exact h.of_eq (by simp) (by simp) (by simp)

theorem State.LinesHeldOnce.fetchFault (h : s.LinesHeldOnce) (hi : s.entries[i].hold? = some k) (q : List Item)
    (c : Cause) : (s.fetchFault i k q c).LinesHeldOnce := by
  have hdisposed : ((q.foldl State.disposeItem s).setEntry i .free).LinesHeldOnce :=
    (h.of_eq (t := q.foldl State.disposeItem s) (by simp) (by simp) (by simp)).setEntry_free
  unfold State.fetchFault
  dsimp only
  split
  · refine (hdisposed.of_eq (by simp) (by simp) (by simp)).listSuspect (fun j m hm => ?_) ?_ ?_
    · simp only [report_keeps, setPartFlag_keeps, entries_set_getElem] at hm
      split at hm
      · cases hm
      · rename_i hij
        exact fun hline => hij (h.entries i j k m hi (by simpa using hm) hline.symm)
    · simpa using h.listed i k hi
    · simpa using h.tabled_of_hold hi
  · exact hdisposed.of_eq (by simp) (by simp) (by simp)

theorem State.LinesHeldOnce.fetchEnded (h : s.LinesHeldOnce) (o : Outcome) : (s.fetchEnded i o).LinesHeldOnce := by
  unfold State.fetchEnded
  split
  · rename_i k q _ hi
    have hk : s.entries[i].hold? = some k := by rw [hi]; rfl
    split
    · split
      · exact h.fetchFault hk q _
      · exact h.fetchComplete hk q _ _
    · exact h.fetchFault hk q _
    · exact h.fetchFault hk q _
  · exact h

theorem State.LinesHeldOnce.writebackEnded (h : s.LinesHeldOnce) (o : Outcome) :
    (s.writebackEnded i o).LinesHeldOnce := by
  unfold State.writebackEnded
  split
  · rename_i k copy image mark redirty sent _ hi
    have hset : ∀ image, (s.setEntry i (if redirty then .wbWait k copy image false else .free)).LinesHeldOnce := by
      intro image
      cases redirty
      · exact h.setEntry_free
      · exact h.setEntry_same (by rw [hi]; rfl)
    split
    · exact (hset (some sent)).of_eq (by simp) (by simp) (by simp)
    · exact (hset image).of_eq (by simp) (by simp) (by simp)
  · exact h

/-! ### The Downstream Port -/

theorem State.LinesHeldOnce.deliver (h : s.LinesHeldOnce) (d : DownTag) (rec : TagRecord) (o : Outcome) :
    (s.deliver d rec o).LinesHeldOnce := by
  unfold State.deliver
  split
  case h_2 i _ => exact h.fetchEnded o
  case h_5 i _ => exact h.writebackEnded o
  all_goals exact h.of_eq (by simp) (by simp) (by simp)

theorem State.LinesHeldOnce.setTag (h : s.LinesHeldOnce) (d : DownTag) (x : TagState) : (s.setTag d x).LinesHeldOnce :=
  h.of_eq (by simp) (by simp) (by simp)

theorem State.LinesHeldOnce.takeResponse (h : s.LinesHeldOnce) {rsp : DownResponse}
    (ht : s.takeResponse rsp = some t) : t.LinesHeldOnce := by
  unfold State.takeResponse at ht
  split at ht
  · cases ht
  · split at ht
    · cases ht
    · cases ht
      exact h.setTag _ _
    · cases ht
      exact (h.setTag _ _).deliver _ _ _

theorem State.LinesHeldOnce.expire (h : s.LinesHeldOnce) (d : DownTag) : ((s.expire d).getD s).LinesHeldOnce := by
  unfold State.expire
  split
  · split
    · exact (h.setTag _ _).deliver _ _ _
    · exact h
  · exact h

theorem State.LinesHeldOnce.grant (h : s.LinesHeldOnce) (d : DownTag) (w : Waiter) : (s.grant d w).LinesHeldOnce := by
  unfold State.grant
  split
  case h_3 i =>
    split
    · rename_i k copy image mark hi
      exact (h.setEntry_same (e := .writing k copy image mark false (s.writeData k copy) d) (by rw [hi]; rfl)).of_eq
        (by simp) (by simp) (by simp)
    · exact h
  case h_4 i =>
    split
    · rename_i k q hi
      exact (h.setEntry_same (e := .fetching k q d) (by rw [hi]; rfl)).of_eq (by simp) (by simp) (by simp)
    · exact h
  all_goals (try split) <;> exact h.of_eq (by simp) (by simp) (by simp)

end Sys2Proof.Machine
end

section
/-!
SUPPORT. The case split over the commands, made once: a property that the effect of each command and the end of a step
keep is kept by every step.
-/

namespace Sys2Proof.Machine

/-- What each command's effect keeps, under the condition it is taken in. An effect whose cause can be absent is written
with the state itself in its place. -/
structure KeptByEveryEffect (P : State → Prop) : Prop where
  commit            : ∀ {s t : State}, P t → P (s.commit t)
  withPending       : ∀ {s : State} (q : List Instr), P s → P (s.withPending q)
  passCycle         : ∀ {s : State} (n : Nat), P s → P { s with cycles := n, ursp := none }
  afterReset        : ∀ {s : State} (k : ResetKind) (b : Bool), P s → P (s.afterReset k b)
  beginBoot         : ∀ {s : State} (sel : BitVec 3), P s → P (s.beginBoot sel)
  applyBootSettings : ∀ {s : State}, P s → P s.applyBootSettings
  formPinned        : ∀ {s : State}, P s → P s.formPinned
  bootToLoading     : ∀ {s : State}, s.partState = .boot → P s → P s.enterLoading
  bootToPass        : ∀ {s : State}, s.partState = .boot → P s → P (s.enter .pass)
  completeLoading   : ∀ {s : State}, P s → P s.completeLoading
  drainingToPass    : ∀ {s : State}, s.drained = true → P s → P ((s.emptyTables.completeCommand .ok).enter .pass)
  head              : ∀ {s : State} (q : UpRequest), P s → P { s with head := some q }
  examine           : ∀ {s : State} (q : UpRequest), P s → P (s.examine q)
  passTick          : ∀ {s : State} (v : BitVec 4), P s → P (s.passTick v)
  settleChange      : ∀ {s : State} (n : InputNo), P s → P ((s.settleChange n).getD s)
  settleStuck       : ∀ {s : State} (n : InputNo), P s → P ((s.settleStuck n).getD s)
  settleChord       : ∀ {s : State}, P s → P (s.settleChord.getD s)
  settleInterval    : ∀ {s : State} (w : WindowNo), P s → P ((s.settleInterval w).getD s)
  expire            : ∀ {s : State} (d : DownTag), P s → P ((s.expire d).getD s)
  takeEventClaim    : ∀ {s : State}, s.partState = .active → P s → P (s.takeEventClaim.getD s)
  takeSweepClaim    : ∀ {s : State}, s.partState = .active → P s → P (s.takeSweepClaim.getD s)
  takeReleaseClaim  : ∀ {s : State}, s.partState = .active → P s → P (s.takeReleaseClaim.getD s)
  beginSweep        : ∀ {s : State}, P s → P (s.beginSweep.getD s)
  closeHeader       : ∀ {s : State}, P s → P (s.closeHeader.getD s)
  closeSweep        : ∀ {s : State}, P s → P (s.closeSweep.getD s)
  abandonHeader     : ∀ {s : State}, P s → P (s.abandonHeader.getD s)
  endAbandoned      : ∀ {s : State}, P s → P (s.endAbandoned.getD s)
  grantNext         : ∀ {s : State}, P s → P (s.grantNext.getD s)
  presentNext       : ∀ {s : State}, P s → P (s.presentNext.getD s)
  sendResponse      : ∀ {s : State}, P s → P (s.sendResponse.getD s)
  takeResponse      : ∀ {s : State} (r : DownResponse), P s → P ((s.takeResponse r).getD s)

section Kept

variable {P : State → Prop} {s t : State}

theorem of_ite_some {c : Prop} [Decidable c] (hs : P s) (ht : c → P t) : P ((if c then some t else none).getD s) := by
  by_cases h : c
  · rw [if_pos h]
    exact ht h
  · rw [if_neg h]
    exact hs

theorem of_ite {c : Prop} [Decidable c] {o : Option State} (hs : P s) (ho : c → P (o.getD s)) :
    P ((if c then o else none).getD s) := by
  by_cases h : c
  · rw [if_pos h]
    exact ho h
  · rw [if_neg h]
    exact hs

theorem of_ite_none {c : Prop} [Decidable c] {o : Option State} (hs : P s) (ho : P (o.getD s)) :
    P ((if c then none else o).getD s) := by
  by_cases h : c
  · rw [if_pos h]
    exact hs
  · rw [if_neg h]
    exact ho

/-- Effects taken one after the other, each where its cause is there. -/
theorem of_foldl_getD {α : Type} {f : State → α → Option State} (xs : List α)
    (hf : ∀ (u : State) (x : α), P u → P ((f u x).getD u)) (hs : P s) :
    P (xs.foldl (fun acc x => (f acc x).getD acc) s) := by
  induction xs generalizing s with
  | nil => exact hs
  | cons x xs ih => exact ih (hf s x hs)

namespace KeptByEveryEffect

variable (hP : KeptByEveryEffect P)

include hP

theorem examineHead (hs : P s) : P s.examineHead := by
  unfold State.examineHead
  split
  · split
    · exact hP.examine _ hs
    · exact hs
  · exact hs

theorem arrive (q : UpRequest) (hs : P s) : P ((s.arrive q).getD s) := by
  unfold State.arrive
  split
  · exact hs
  · exact hP.examineHead (hP.head q hs)

theorem finish {o : Option State} (hs : P s) (ho : P (o.getD s)) (h : finish s o = .next t) : P t := by
  cases o with
  | none =>
    cases h
    exact hs
  | some u =>
    cases h
    exact hP.commit ho

theorem exec {c : Instr} (hs : P s) (h : exec c s = .next t) : P t := by
  have answer {o : Option State} (hc : Machine.exec c s = Machine.finish s o) (ho : P (o.getD s)) : P t :=
    hP.finish hs ho (hc ▸ h)
  have served {q : UpRequest} (hc : Machine.exec c s = Machine.finish s (s.arrive q)) : P t :=
    answer hc (hP.arrive q hs)
  have responded {r : DownResponse} (hc : Machine.exec c s = Machine.finish s (s.takeResponse r)) : P t :=
    answer hc (hP.takeResponse r hs)
  cases c with
  | powerOnReset => exact answer (exec_powerOnReset s) (hP.afterReset _ _ hs)
  | warmReset => exact answer (exec_warmReset s) (hP.afterReset _ _ hs)
  | resetRelease sel => exact answer (exec_resetRelease s sel) (of_ite_some hs fun _ => hP.beginBoot sel hs)
  | bootSettingsApplied =>
    exact answer (exec_bootSettingsApplied s) (of_ite_some hs fun _ => hP.applyBootSettings hs)
  | statusCopyFormed => exact answer (exec_statusCopyFormed s) (of_ite_some hs fun _ => hP.formPinned hs)
  | bootEnd =>
    refine answer (exec_bootEnd s) (of_ite_some hs fun hdone => ?_)
    have hboot : s.partState = .boot := by
      simp only [State.bootDone, Bool.and_eq_true, beq_iff_eq] at hdone
      exact hdone.1.1.1
    split
    · exact hP.bootToLoading hboot hs
    · exact hP.examineHead (hP.bootToPass hboot hs)
  | loadingComplete =>
    exact answer (exec_loadingComplete s) (of_ite_some hs fun _ => hP.examineHead (hP.completeLoading hs))
  | drainingEnd =>
    exact answer (exec_drainingEnd s) (of_ite_some hs fun hd => hP.examineHead (hP.drainingToPass hd hs))
  | tickIncrement levels =>
    refine answer (exec_tickIncrement s levels) (of_ite_none hs ?_)
    rw [Option.getD_some]
    exact hP.passTick levels hs
  | acceptedChange n => exact answer (exec_acceptedChange s n) (hP.settleChange n hs)
  | eventStuck n => exact answer (exec_eventStuck s n) (hP.settleStuck n hs)
  | chordFires => exact answer (exec_chordFires s) (hP.settleChord hs)
  | intervalExpiry w => exact answer (exec_intervalExpiry s w) (hP.settleInterval w hs)
  | requestExpiry d => exact answer (exec_requestExpiry s d) (hP.expire d hs)
  | headReexamination =>
    exact answer (exec_headReexamination s) (of_ite_some hs fun _ => hP.examineHead hs)
  | eventClaimTaken => exact answer (exec_eventClaimTaken s) (of_ite hs fun ha => hP.takeEventClaim ha hs)
  | sweepClaimTaken => exact answer (exec_sweepClaimTaken s) (of_ite hs fun ha => hP.takeSweepClaim ha hs)
  | releaseClaimTaken => exact answer (exec_releaseClaimTaken s) (of_ite hs fun ha => hP.takeReleaseClaim ha hs)
  | sweepStart => exact answer (exec_sweepStart s) (of_ite hs fun _ => hP.beginSweep hs)
  | closingHeaderProduced => exact answer (exec_closingHeaderProduced s) (hP.closeHeader hs)
  | sweepClose => exact answer (exec_sweepClose s) (hP.closeSweep hs)
  | abandoningHeaderProduced => exact answer (exec_abandoningHeaderProduced s) (hP.abandonHeader hs)
  | sweepAbandoned => exact answer (exec_sweepAbandoned s) (hP.endAbandoned hs)
  | portGrant => exact answer (exec_portGrant s) (of_ite_none hs (hP.grantNext hs))
  | downstreamRequestTaken => exact answer (exec_downstreamRequestTaken s) (hP.presentNext hs)
  | responseSent => exact answer (exec_responseSent s) (of_ite_none hs (hP.sendResponse hs))
  | passResponse r | fetchResponse r | writebackResponse r | shadowResponse r | logWriteResponse r | setupResponse r
  | lateResponse r => exact responded rfl
  | passThroughRequest | windowWrite | windowRead | statusLineRead | protectWrite | liveSettingWrite
  | controlAreaLineWrite | arm | disarm | rearm | sweep | release | logReset | badCommand | headRequestHeld
  | partOwnedWrite | commandWriteRefused => exact served rfl

theorem step (hs : P s) (h : step s = .next t) : P t := by
  unfold Machine.step at h
  split at h
  · cases h
    unfold State.passCycle
    split
    · exact hP.passCycle s.cycles hs
    · split
      · exact hP.commit (hP.passTick _ hs)
      · exact hP.passCycle _ hs
  · exact hP.exec (hP.withPending _ hs) h

end KeptByEveryEffect

end Kept

end Sys2Proof.Machine
end

section
/-!
SUPPORT. The effects that take claims, examine requests and change the part state, and the invariant that a line has one
holder at most (R71, R99, R107).
-/

namespace Sys2Proof.Machine

variable {s t : State}

/-! ### Claims at the allocation arbiter -/

theorem listed_iff (l : LineAddr) : s.listed l = true ↔ l ∈ s.suspects := by
  simp [State.listed]

theorem State.LinesHeldOnce.takeEventClaim (h : s.LinesHeldOnce) (ha : s.partState = .active) :
    (s.takeEventClaim.getD s).LinesHeldOnce := by
  have hp : s.partState.tabled := .inl ha
  unfold State.takeEventClaim
  split
  · exact h
  · rename_i n _
    split
    · exact h
    · rename_i b _
      split
      · exact h
      · split
        · exact h.of_eq (by simp) (by simp) (by simp)
        · rename_i hl
          cases s.record b.window with
          | none => exact h
          | some r =>
            have hserved : (s.eventServed n).LinesHeldOnce := h.of_eq (by simp) (by simp) (by simp)
            have haccepted := hserved.accept (k := ⟨b.target, b.window⟩) (s.eventItem n b r)
              (by simpa [listed_iff] using hl) (by simpa using hp)
            exact haccepted.of_eq (by simp) (by simp) (by simp)

/-- A CLEAR item may be accepted of a listed line, which it takes off the list. -/
theorem State.LinesHeldOnce.acceptSweepItem (h : s.LinesHeldOnce) (sw : Sweep) (r : WindowRecord)
    (hl : sw.claimLine r ∈ s.suspects → sw.action = .clear) (hp : s.partState.tabled) :
    (s.acceptSweepItem sw r).LinesHeldOnce := by
  have htaken : ({ s with engine := some { sw with inFlight := .accepted } } : State).LinesHeldOnce :=
    h.of_eq rfl rfl rfl
  unfold State.acceptSweepItem
  dsimp only
  split
  · rename_i i hplace
    have hnone : s.entryOf (sw.claimLine r) = none := (place_openAt hplace).1
    split
    · exact htaken.openCleared r _ _ hnone hp
    · rename_i hact
      exact htaken.setEntry_new (k := ⟨sw.claimLine r, sw.window⟩) rfl hnone (fun hmem => hact (hl hmem)) hp
  · rename_i hplace
    by_cases hmem : sw.claimLine r ∈ s.suspects
    · unfold State.accept
      split
      · exact htaken.applyAt _
      · exact htaken.joinQueue _
      · rename_i i hopen
        exact absurd hopen (hplace i)
      · exact htaken
      · exact htaken
    · exact htaken.accept _ hmem hp

theorem State.LinesHeldOnce.takeSweepClaim (h : s.LinesHeldOnce) (ha : s.partState = .active) :
    (s.takeSweepClaim.getD s).LinesHeldOnce := by
  unfold State.takeSweepClaim
  split
  · exact h
  · rename_i sw _
    split
    · exact h
    · rename_i r _
      split
      · exact h
      · split
        · exact h.of_eq (by simp) (by simp) (by simp)
        · rename_i hskip
          refine h.acceptSweepItem sw r (fun hmem => ?_) (.inl ha)
          by_contra hact
          exact hskip (by simp [(listed_iff _).2 hmem, hact])

theorem State.LinesHeldOnce.takeReleaseClaim (h : s.LinesHeldOnce) (ha : s.partState = .active) :
    (s.takeReleaseClaim.getD s).LinesHeldOnce := by
  have htaken : ({ s with releaseClaim := none } : State).LinesHeldOnce := h.of_eq rfl rfl rfl
  unfold State.takeReleaseClaim
  split
  · exact h
  · rename_i l _
    split
    · exact h
    · dsimp only
      split
      · rename_i hl
        split
        · rename_i i w _ _
          cases s.record w with
          | none => exact h
          | some r =>
            exact htaken.openCleared (k := ⟨l, w⟩) r _ _ (h.entryOf_of_mem ((listed_iff l).1 hl)) (.inl ha)
        · exact h
      · exact htaken.of_eq (by simp) (by simp) (by simp)

/-! ### The part state -/

@[simp] theorem enter_partState (s : State) (p : PartState) : (s.enter p).partState = p := by
  simp [State.enter]

/-- The part state may change among those in which the tables are used, or among the others, or into the first. -/
theorem State.LinesHeldOnce.enter (h : s.LinesHeldOnce) (p : PartState) (hp : s.partState.tabled → p.tabled) :
    (s.enter p).LinesHeldOnce :=
  h.congr (fun j => by simp) (by simp) (by simpa using hp)

theorem State.LinesHeldOnce.enterLoading (h : s.LinesHeldOnce) (hp : ¬s.partState.tabled) :
    s.enterLoading.LinesHeldOnce := by
  have hplaced : ({ s with
      fellToDefault := false
      setup := Vector.ofFn fun k => if 4 ≤ k.val then .waiting else s.setup[k] } : State).LinesHeldOnce :=
    h.of_eq rfl rfl rfl
  exact hplaced.enter _ fun ht => absurd ht hp

theorem not_tabled_boot : ¬PartState.boot.tabled := by simp [PartState.tabled]

theorem not_tabled_pass : ¬PartState.pass.tabled := by simp [PartState.tabled]

@[simp] theorem completeLoading_suspects (s : State) : s.completeLoading.suspects = [] := by
  simp [State.completeLoading, State.loadCounters]

@[simp] theorem completeLoading_partState (s : State) : s.completeLoading.partState = .active := by
  simp [State.completeLoading]

theorem drained_inUse (h : s.drained = true) : s.inUse = 0 := by
  simp only [State.drained, Bool.and_eq_true, beq_iff_eq] at h
  exact h.1.2

/-- The reset leaves no entry in use and no line listed. -/
theorem afterReset_linesHeldOnce (s : State) (k : ResetKind) (b : Bool) : (s.afterReset k b).LinesHeldOnce where
  entries := fun i j x y hx => by
    rw [show (s.afterReset k b).entries[i] = .free from Vector.getElem_replicate i.isLt] at hx
    cases hx
  listed := fun i x _ => List.not_mem_nil
  once := List.nodup_nil
  idle := fun _ _ => ⟨inUse_eq_zero_iff.2 fun j => by
    rw [show (s.afterReset k b).entries[j] = .free from Vector.getElem_replicate j.isLt]
    rfl, rfl⟩

/-! ### Commands and requests -/

theorem State.LinesHeldOnce.runCommand (h : s.LinesHeldOnce) (c : CommandLine) : (s.runCommand c).LinesHeldOnce := by
  unfold State.runCommand
  split
  · unfold State.runArm
    split
    · rename_i hpass
      exact h.enterLoading (hpass ▸ not_tabled_pass)
    · exact h.of_eq (by simp) (by simp) (by simp)
  · split
    · unfold State.runDisarm
      split
      · have hdropped : ({ s.abandonSweeps.resetInputs with intervalDue := 0 } : State).LinesHeldOnce :=
          h.of_eq (by simp) (by simp) (by simp)
        exact hdropped.enter _ fun _ => .inr rfl
      · exact h.of_eq (by simp) (by simp) (by simp)
    · refine h.of_eq ?_ ?_ ?_ <;> (repeat' split) <;> simp

theorem classify_window_active {l : LineAddr} {w : WindowNo} (h : s.classify l = .window w) :
    s.partState = .active := by
  by_contra hp
  unfold State.classify at h
  split at h
  · (repeat' split at h) <;> cases h
  · simp only [if_neg hp] at h
    (repeat' split at h) <;> cases h

theorem State.LinesHeldOnce.serveWindow (h : s.LinesHeldOnce) (q : UpRequest) (w : WindowNo) (r : WindowRecord)
    (hp : s.partState.tabled) : (s.serveWindow q w r).LinesHeldOnce := by
  unfold State.serveWindow
  dsimp only
  split
  · split
    · exact h.of_eq (by simp) (by simp) (by simp)
    · rename_i hl
      unfold State.postRead
      split
      · have hleft : (if s.waitsForFetch (lineOf q.addr) then s.leave.addOutstanding q.tag
            else s.leave).LinesHeldOnce := by
          split <;> exact h.of_eq (by simp) (by simp) (by simp)
        refine hleft.accept _ ?_ ?_
        · split <;> simpa [listed_iff] using hl
        · split <;> simpa using hp
      · exact h
  · split
    · exact h.of_eq (by simp) (by simp) (by simp)
    · split
      · exact h.of_eq (by simp) (by simp) (by simp)
      · split
        · exact h.of_eq (by simp) (by simp) (by simp)
        · rename_i hl
          unfold State.postUpdate
          split
          · have hanswered : (s.answerHead q .okay none).LinesHeldOnce := h.of_eq (by simp) (by simp) (by simp)
            exact hanswered.accept _ (by simpa [listed_iff] using hl) (by simpa using hp)
          · exact h

theorem State.LinesHeldOnce.serveCommand (h : s.LinesHeldOnce) (q : UpRequest) :
    (s.serveCommand q).LinesHeldOnce := by
  unfold State.serveCommand
  split
  · exact h.of_eq (by simp) (by simp) (by simp)
  · rename_i data _
    split
    · exact h.of_eq (by simp) (by simp) (by simp)
    · split
      · exact h.of_eq (by simp) (by simp) (by simp)
      · have htaken : ({ s.answerHead q .okay none with command := s.command.take data } : State).LinesHeldOnce :=
          h.of_eq (by simp) (by simp) (by simp)
        exact htaken.runCommand _

theorem State.LinesHeldOnce.examine (h : s.LinesHeldOnce) (q : UpRequest) : (s.examine q).LinesHeldOnce := by
  unfold State.examine
  split
  · exact h.of_eq (by simp) (by simp) (by simp)
  · split
    case h_2 => exact h.serveCommand q
    case h_7 w hclass =>
      split
      · exact h.serveWindow q w _ (.inl (classify_window_active hclass))
      · exact h.of_eq (by simp) (by simp) (by simp)
    all_goals exact h.of_eq (by simp) (by simp) (by simp)

/-! ### Tick increments -/

theorem State.LinesHeldOnce.settle (h : s.LinesHeldOnce) : s.settle.LinesHeldOnce := by
  have hexpired := of_foldl_getD (P := State.LinesHeldOnce) (f := State.expire) (List.finRange 32)
    (fun u d hu => hu.expire d) h
  exact hexpired.of_eq (by simp [State.settle]) (by simp [State.settle]) (by simp [State.settle])

theorem State.LinesHeldOnce.passTick (h : s.LinesHeldOnce) (v : BitVec 4) : (s.passTick v).LinesHeldOnce := by
  unfold State.passTick
  dsimp only
  split <;> exact h.settle.of_eq (by simp) (by simp) (by simp)

/-! ### Every step -/

theorem linesHeldOnce_keptByEveryEffect : KeptByEveryEffect State.LinesHeldOnce where
  commit h := h.of_eq (by simp) (by simp) (by simp)
  withPending q h := h.of_eq (by simp) (by simp) (by simp)
  passCycle n h := h.of_eq rfl rfl rfl
  afterReset k b _ := afterReset_linesHeldOnce _ k b
  beginBoot sel h := h.of_eq (by simp) (by simp) (by simp)
  applyBootSettings h := h.of_eq (by simp) (by simp) (by simp)
  formPinned h := h.of_eq (by simp) (by simp) (by simp)
  bootToLoading hp h := h.enterLoading (hp ▸ not_tabled_boot)
  bootToPass hp h := h.enter _ fun ht => absurd ht (hp ▸ not_tabled_boot)
  completeLoading h := h.of_suspects_nil (by simp) (by simp) (.inl (.inl (by simp)))
  drainingToPass hd h := h.of_suspects_nil (by simp) (by simp [State.emptyTables]) (.inr (drained_inUse hd))
  head q h := h.of_eq rfl rfl rfl
  examine q h := h.examine q
  passTick v h := h.passTick v
  settleChange n h := h.of_eq (by simp) (by simp) (by simp)
  settleStuck n h := h.of_eq (by simp) (by simp) (by simp)
  settleChord h := h.of_eq (by simp) (by simp) (by simp)
  settleInterval w h := h.of_eq (by simp) (by simp) (by simp)
  expire d h := h.expire d
  takeEventClaim ha h := h.takeEventClaim ha
  takeSweepClaim ha h := h.takeSweepClaim ha
  takeReleaseClaim ha h := h.takeReleaseClaim ha
  beginSweep h := h.of_eq (by simp) (by simp) (by simp)
  closeHeader h := h.of_eq (by simp) (by simp) (by simp)
  closeSweep h := h.of_eq (by simp) (by simp) (by simp)
  abandonHeader h := h.of_eq (by simp) (by simp) (by simp)
  endAbandoned h := h.of_eq (by simp) (by simp) (by simp)
  grantNext {s} h := by
    unfold State.grantNext
    split
    · exact h.grant _ _
    · exact h
  presentNext h := h.of_eq (by simp) (by simp) (by simp)
  sendResponse h := h.of_eq (by simp) (by simp) (by simp)
  takeResponse {s} r h := by
    cases ht : s.takeResponse r with
    | none => exact h
    | some t => exact h.takeResponse ht

/-- Settles O58: an entry takes a line only where no entry holds it and it is unlisted, or leaves the list as it does;
a line is listed as its entry goes. -/
theorem stepsKeepLinesHeldOnce : Obligations.StepsKeepLinesHeldOnce :=
  fun _ _ h hstep => linesHeldOnce_keptByEveryEffect.step h hstep

end Sys2Proof.Machine
end

section
/-!
SUPPORT. The operations as compositions of a few plain updates of the flags, queues, lists and counts, said once; a
property those updates keep is then kept by every operation.
-/

namespace Sys2Proof.Machine

/-! ### The waiters (R21 to R23) -/

/-- What a class offers the arbiter, with where it has it from. -/
inductive State.Offers (s : State) : PortClass → Waiter → Prop where
  | status (h : s.statusEntry.waits = true) : s.Offers .writeback .writebackStatus
  | command (hs : s.statusEntry.waits = false) (h : s.commandEntry.waits = true) : s.Offers .writeback .writebackCommand
  | entry (i : Fin 12) (hs : s.statusEntry.waits = false) (hc : s.commandEntry.waits = false)
      (h : (List.finRange 12).find? (fun i => s.entries[i].waitsWrite) = some i) : s.Offers .writeback (.writeback i)
  | fetch (i : Fin 12) (h : (List.finRange 12).find? (fun i => s.entries[i].waitsFetch) = some i) :
      s.Offers .fetch (.fetch i)
  | pass (p : PassRequest) (rest : List PassRequest) (h : s.passQueue = p :: rest) : s.Offers .pass (.pass p rest)
  | shadow (sw : Sweep) (x : ShadowWrite) (rest : List ShadowWrite) (hs : s.engine = some sw)
      (h : sw.waiting = x :: rest) : s.Offers .shadow (.shadow sw x rest)
  | log (n : BitVec 16) (i : Incident) (rest : List LogEntry) (h : s.logQueue = .record n i :: rest) :
      s.Offers .log (.log n i rest)
  | setup (k : Fin 42) (h : (List.finRange 42).find? (fun k => s.setup[k].waits) = some k) : s.Offers .setup (.setup k)

theorem offers_of_waiterOf {s : State} {c : PortClass} {w : Waiter} (h : s.waiterOf c = some w) : s.Offers c w := by
  cases c with
  | writeback =>
    simp only [State.waiterOf, State.writebackWaiter] at h
    split at h
    · cases h
      exact .status ‹_›
    · rename_i hs
      split at h
      · cases h
        exact .command (by simpa using hs) ‹_›
      · rename_i hc
        obtain ⟨i, hi, rfl⟩ := Option.map_eq_some_iff.1 h
        exact .entry i (by simpa using hs) (by simpa using hc) hi
  | fetch =>
    obtain ⟨i, hi, rfl⟩ := Option.map_eq_some_iff.1 h
    exact .fetch i hi
  | pass =>
    simp only [State.waiterOf, State.passWaiter] at h
    split at h
    · cases h
    · cases h
      exact .pass _ _ ‹_›
  | shadow =>
    simp only [State.waiterOf, State.shadowWaiter] at h
    split at h
    · cases h
    · split at h
      · cases h
      · cases h
        exact .shadow _ _ _ ‹_› ‹_›
  | log =>
    simp only [State.waiterOf, State.logWaiter] at h
    split at h
    · cases h
      exact .log _ _ _ ‹_›
    · cases h
  | setup =>
    obtain ⟨k, hk, rfl⟩ := Option.map_eq_some_iff.1 h
    exact .setup k hk

/-- The next waiter is what some class offers. -/
theorem offers_of_nextWaiter {s : State} {w : Waiter} (h : s.nextWaiter = some w) : ∃ c, s.Offers c w := by
  obtain ⟨c, -, hc⟩ := List.exists_of_findSome?_eq_some h
  exact ⟨c, offers_of_waiterOf hc⟩

/-! ### The plain updates -/

/-- The flags, the queues, lists and counts of the state, an entry by its queue and an input by its pending count. -/
def State.counted (s : State) :=
  (s.flags, s.passQueue, s.entries.map Entry.queue, s.suspects, s.sweepQueue, s.logQueue, s.logHeld, s.outstanding,
    s.inputs.map InputState.pending)

/-- The plain updates the operations are made of, each under the test the model makes before it. Everything that
`State.counted` does not read may change freely (`frame`). -/
structure ClosedUnderUpdates (P : State → Prop) : Prop where
  frame          : ∀ {s t : State}, P s → t.counted = s.counted → P t
  setPartFlag    : ∀ {s : State} (f : PartFlag), P s → P (s.setPartFlag f)
  setWindowFlag  : ∀ {s : State} (w : WindowNo), P s → P (s.setWindowFlag w)
  setSweepDone   : ∀ {s : State} (w : WindowNo), P s → P (s.setSweepDone w)
  keepIncident   : ∀ {s : State} (i : Incident), P s → P (s.keepIncident i)
  takeIncident   : ∀ {s : State} (i : Incident), P s → P (s.takeIncident i)
  startStatus    : ∀ {s : State}, P s → P s.startStatus
  dropLog        : ∀ {s : State} {q rest : List LogEntry}, s.logQueue = q ++ rest → P s → P { s with logQueue := rest }
  zeroHeld       : ∀ {s : State}, P s → P { s with logHeld := 0 }
  answer         : ∀ {s : State} (tag : UpTag) (r : Result) (d : Option Line), P s → P (s.answer tag r d)
  addOutstanding : ∀ {s : State} (tag : UpTag), P s → P (s.addOutstanding tag)
  queuePass      : ∀ {s : State} (p : PassRequest), s.passQueue.length < 8 → P s →
    P { s with passQueue := s.passQueue ++ [p] }
  dropPass       : ∀ {s : State} {p : PassRequest} {rest : List PassRequest}, s.passQueue = p :: rest → P s →
    P { s with passQueue := rest }
  setEntry       : ∀ {s : State} {i : Fin 12} {e : Entry}, e.queue.length ≤ 8 ∨ e.queue = s.entries[i].queue → P s →
    P (s.setEntry i e)
  delist         : ∀ {s : State} (l : LineAddr), P s → P (s.delist l)
  listLine       : ∀ {s : State} (l : LineAddr), s.suspects.length < 8 → P s →
    P { s with suspects := s.suspects ++ [l] }
  emptyList      : ∀ {s : State}, P s → P { s with suspects := [] }
  queueSweep     : ∀ {s : State} (q : SweepRequest), s.dropsSweep q = false → P s →
    P { s with sweepQueue := s.sweepQueue ++ [q] }
  dropSweep      : ∀ {s : State} {q rest : List SweepRequest}, s.sweepQueue = q ++ rest → P s →
    P { s with sweepQueue := rest }
  setInput       : ∀ {s : State} {n : InputNo} {i : InputState}, i.pending ≤ 15 ∨ i.pending = s.inputs[n].pending →
    P s → P (s.setInput n i)
  resetInputs    : ∀ {s : State}, P s → P s.resetInputs

namespace ClosedUnderUpdates

variable {P : State → Prop} (hP : ClosedUnderUpdates P) {s : State}

include hP

/-! ### Incidents, flags and commands -/

theorem report (k : IncidentKind) (w : Option WindowNo) (a : ByteAddr) (d : BitVec 32) (h : P s) :
    P (s.report k w a d) := by
  unfold State.report State.logIncident
  split
  · exact hP.takeIncident _ h
  · exact hP.keepIncident _ h

theorem setPartFlagIf (b : Bool) (f : PartFlag) (h : P s) : P (s.setPartFlagIf b f) := by
  cases b
  · exact h
  · exact hP.setPartFlag f h

theorem enter (p : PartState) (h : P s) : P (s.enter p) := hP.report _ _ _ _ (hP.frame h rfl)

theorem completeCommand (r : CommandResult) (h : P s) : P (s.completeCommand r) :=
  hP.setPartFlag _ (hP.frame h rfl)

theorem setupInvalid (w : Option WindowNo) (a : ByteAddr) (d : BitVec 32) (h : P s) : P (s.setupInvalid w a d) :=
  hP.report _ _ _ _ (hP.setPartFlag _ (hP.frame h rfl))

theorem refuse (q : UpRequest) (w : Option WindowNo) (x : Reason) (h : P s) : P (s.refuse q w x) :=
  hP.report _ _ _ _ (hP.setPartFlag _ (hP.frame h rfl))

theorem handSweep (q : SweepRequest) (h : P s) : P (s.handSweep q) := by
  obtain ⟨_, he⟩ | ⟨hdrop, he⟩ := handSweep_cases s q
  · rw [he]
    exact hP.report _ _ _ _ (hP.setPartFlag _ h)
  · rw [he]
    exact hP.queueSweep q hdrop h

theorem handSweeps (qs : List SweepRequest) (h : P s) : P (s.handSweeps qs) :=
  List.foldlRecOn qs State.handSweep h fun _ hb q _ => hP.handSweep q hb

/-! ### Items -/

theorem testCrossing (w : WindowNo) (r : WindowRecord) (l : LineAddr) (v : Watched) (h : P s) :
    P (s.testCrossing w r l v) := by
  unfold State.testCrossing
  split
  · split
    · exact h
    · exact hP.report _ _ _ _ (hP.setWindowFlag _ h)
    · split
      · exact hP.report _ _ _ _ (hP.setWindowFlag _ (hP.frame h rfl))
      · exact h
  · exact h

theorem testCrossings (w : WindowNo) (r : WindowRecord) (l : LineAddr) (vs : List Watched) (h : P s) :
    P (s.testCrossings w r l vs) :=
  List.foldlRecOn vs _ h fun _ hb v _ => hP.testCrossing w r l v hb

theorem advanceSweep (sw : Sweep) (r : WindowRecord) (h : P s) : P (s.advanceSweep sw r) := by
  unfold State.advanceSweep
  split
  · exact hP.frame h rfl
  · split
    · exact hP.frame h rfl
    · split
      · exact hP.setPartFlagIf _ _ (hP.setSweepDone _ (hP.frame h rfl))
      · exact hP.frame h rfl

theorem resolveItem (n : Nat) (x : Resolution) (h : P s) : P (s.resolveItem n x) := by
  unfold State.resolveItem
  split
  · exact h
  · split
    · exact h
    · exact hP.advanceSweep _ _ h

theorem applyItem (k : Hold) (x : Item) (c : Line) (h : P s) : P (s.applyItem k x c).2 := by
  unfold State.applyItem
  split
  · exact h
  · split
    · unfold State.applyUpdate
      split
      · exact h
      · dsimp only
        split
        · exact h
        · exact hP.testCrossings _ _ _ _ h
    · exact hP.answer _ _ _ h
    · unfold State.applySweep
      split <;> exact hP.resolveItem _ _ h

theorem applyItems (k : Hold) (xs : List Item) (c : Line) (h : P s) : P (s.applyItems k xs c).2 :=
  List.foldlRecOn (motive := fun acc : Line × State => P acc.2) xs _ h fun _ hb x _ => hP.applyItem k x _ hb

theorem applyAt (i : Fin 12) (x : Item) (h : P s) : P (s.applyAt i x) := by
  unfold State.applyAt
  split
  · exact hP.setEntry (.inl (Nat.zero_le _)) (hP.applyItem _ x _ h)
  · exact hP.setEntry (.inl (Nat.zero_le _)) (hP.applyItem _ x _ h)
  · exact h

/-- A queue that holds fewer than 8 items may be joined (R73). -/
theorem joinQueue (i : Fin 12) (x : Item) (hq : s.entries[i].queue.length < 8) (h : P s) : P (s.joinQueue i x) := by
  unfold State.joinQueue
  split
  · rename_i hi
    rw [hi] at hq
    exact hP.setEntry (.inl (by simpa [Entry.queue] using hq)) h
  · rename_i hi
    rw [hi] at hq
    exact hP.setEntry (.inl (by simpa [Entry.queue] using hq)) h
  · exact h

theorem accept (k : Hold) (x : Item) (h : P s) : P (s.accept k x) := by
  unfold State.accept
  split
  · exact hP.applyAt _ x h
  · rename_i hplace
    exact hP.joinQueue _ x (place_join hplace).2 h
  · exact hP.setEntry (.inl (by simp [Entry.queue])) h
  · exact h
  · exact h

theorem openCleared (i : Fin 12) (k : Hold) (r : WindowRecord) (x : Item) (m : Bool) (h : P s) :
    P (s.openCleared i k r x m) :=
  hP.applyAt i x (hP.setEntry (.inl (Nat.zero_le _)) (hP.delist _ h))

/-! ### The end of a fetch and of a write-back -/

theorem disposeItem (x : Item) (h : P s) : P (s.disposeItem x) := by
  cases x with
  | update => exact h
  | read tag => exact hP.answer tag _ _ h
  | sweep => exact hP.resolveItem _ _ h

theorem listSuspect (k : Hold) (h : P s) : P (s.listSuspect k) := by
  unfold State.listSuspect
  split
  · rename_i hroom
    exact hP.listLine _ hroom h
  · exact hP.report _ _ _ _ (hP.setPartFlag _ h)

theorem fetchFault (i : Fin 12) (k : Hold) (q : List Item) (c : Cause) (h : P s) : P (s.fetchFault i k q c) := by
  have hdisposed : P (q.foldl State.disposeItem s) :=
    List.foldlRecOn q State.disposeItem h fun _ hb x _ => hP.disposeItem x hb
  have hreported := hP.report c.kind (some k.window) (byteAddr k.line) (BitVec.ofNat 32 (updateCount q))
    (hP.setPartFlag c.flag (hP.setEntry (i := i) (e := .free) (.inl (Nat.zero_le _)) hdisposed))
  unfold State.fetchFault
  dsimp only
  split
  · exact hP.listSuspect k hreported
  · exact hreported

theorem fetchComplete (i : Fin 12) (k : Hold) (q : List Item) (r : WindowRecord) (data : Line) (h : P s) :
    P (s.fetchComplete i k q r data) := by
  unfold State.fetchComplete
  dsimp only
  split <;> exact hP.setEntry (.inl (Nat.zero_le _)) (hP.applyItems k q _ h)

theorem fetchEnded (i : Fin 12) (o : Outcome) (h : P s) : P (s.fetchEnded i o) := by
  unfold State.fetchEnded
  split
  · split
    · split
      · exact hP.fetchFault _ _ _ _ h
      · exact hP.fetchComplete _ _ _ _ _ h
    · exact hP.fetchFault _ _ _ _ h
    · exact hP.fetchFault _ _ _ _ h
  · exact h

theorem writebackFault (w : Option WindowNo) (l : LineAddr) (c : Cause) (h : P s) : P (s.writebackFault w l c) :=
  hP.report _ _ _ _ (hP.setPartFlag _ h)

theorem releaseOutcome (m ok : Bool) (h : P s) : P (s.releaseOutcome m ok) := by
  cases m
  · exact h
  · exact hP.completeCommand _ h

theorem writebackEnded (i : Fin 12) (o : Outcome) (h : P s) : P (s.writebackEnded i o) := by
  have hset {e f : Entry} (redirty : Bool) (he : e.queue = []) (hf : f.queue = []) :
      P (s.setEntry i (if redirty then e else f)) := by
    refine hP.setEntry (.inl ?_) h
    cases redirty <;> simp [he, hf]
  unfold State.writebackEnded
  split
  · split
    · exact hP.releaseOutcome _ _ (hset _ rfl rfl)
    · exact hP.releaseOutcome _ _ (hP.writebackFault _ _ _ (hset _ rfl rfl))
  · exact h

theorem statusWritebackEnded (o : Outcome) (h : P s) : P (s.statusWritebackEnded o) := by
  unfold State.statusWritebackEnded
  dsimp only
  split
  · exact hP.frame h rfl
  · exact hP.writebackFault _ _ _ (hP.frame h rfl)

theorem commandWritebackEnded (o : Outcome) (h : P s) : P (s.commandWritebackEnded o) := by
  unfold State.commandWritebackEnded
  dsimp only
  split
  · exact hP.frame h rfl
  · exact hP.writebackFault _ _ _ (hP.frame h rfl)

/-! ### The Downstream Port -/

theorem reportOutcome (w : Option WindowNo) (rec : TagRecord) (o : Outcome) (h : P s) :
    P (s.reportOutcome w rec o) := by
  unfold State.reportOutcome
  split
  · exact h
  · exact hP.report _ _ _ _ (hP.setPartFlag _ h)

theorem logWriteEnded (o : Outcome) (h : P s) : P (s.logWriteEnded o) := by
  unfold State.logWriteEnded
  split
  · exact h
  · exact hP.setPartFlag _ (hP.setPartFlag _ h)

theorem passAnswer (tag : UpTag) (b : Bool) (o : Outcome) (h : P s) : P (s.passAnswer tag b o) := by
  cases o <;> exact hP.answer tag _ _ h

theorem shadowAnswered (d : DownTag) (g : ShadowTarget) (ok : Bool) (h : P s) : P (s.shadowAnswered d g ok) := by
  unfold State.shadowAnswered
  split
  · exact h
  · split
    · exact hP.frame h rfl
    · exact h

theorem deliver (d : DownTag) (rec : TagRecord) (o : Outcome) (h : P s) : P (s.deliver d rec o) := by
  unfold State.deliver
  split
  · exact hP.passAnswer _ _ _ (hP.reportOutcome _ _ _ h)
  · exact hP.fetchEnded _ _ h
  · exact hP.statusWritebackEnded _ h
  · exact hP.commandWritebackEnded _ h
  · exact hP.writebackEnded _ _ h
  · exact hP.shadowAnswered _ _ _ (hP.reportOutcome _ _ _ h)
  · exact hP.logWriteEnded _ h
  · exact hP.frame (hP.reportOutcome none rec o h) rfl

theorem takeResponse (r : DownResponse) (h : P s) : P ((s.takeResponse r).getD s) := by
  unfold State.takeResponse
  split
  · exact h
  · split
    · exact h
    · exact hP.frame h rfl
    · exact hP.deliver _ _ _ (hP.frame h rfl)

theorem expire (d : DownTag) (h : P s) : P ((s.expire d).getD s) := by
  unfold State.expire
  split
  · split
    · exact hP.deliver _ _ _ (hP.frame h rfl)
    · exact h
  · exact h

theorem grant {c : PortClass} {w : Waiter} (d : DownTag) (hw : s.Offers c w) (h : P s) : P (s.grant d w) := by
  cases hw with
  | pass p rest hq => exact hP.frame (hP.dropPass hq h) rfl
  | log n i rest hq => exact hP.frame (hP.dropLog (q := [.record n i]) hq h) rfl
  | shadow | setup => exact hP.frame h rfl
  | status | command =>
    unfold State.grant
    dsimp only
    split
    · exact hP.frame h rfl
    · exact h
  | entry i | fetch i =>
    unfold State.grant
    dsimp only
    split
    · rename_i hi
      exact hP.frame (hP.setEntry (.inr (by rw [hi]; rfl)) h) rfl
    · exact h

theorem grantNext (h : P s) : P (s.grantNext.getD s) := by
  unfold State.grantNext
  split
  · rename_i d w _ hw
    obtain ⟨c, hc⟩ := offers_of_nextWaiter hw
    exact hP.grant d hc h
  · exact h

end ClosedUnderUpdates

end Sys2Proof.Machine
end

section
/-!
SUPPORT. The operations of the event inputs, of the claims, of BOOT, LOADING and the commands, and of the Upstream Port,
as compositions of the plain updates.
-/

namespace Sys2Proof.Machine

/-- Inputs rewritten one by one, no pending count changed. -/
theorem inputs_map_pending_ofFn {s : State} {f : InputNo → InputState}
    (hf : ∀ n : InputNo, (f n).pending = s.inputs[n].pending) :
    (Vector.ofFn f).map InputState.pending = s.inputs.map InputState.pending := by
  ext n hn
  simpa using hf ⟨n, hn⟩

@[simp] theorem InputState.afterChange_pending (i : InputState) (rising : Bool) :
    (i.afterChange rising).pending = i.pending := by
  cases rising <;> rfl

namespace ClosedUnderUpdates

variable {P : State → Prop} (hP : ClosedUnderUpdates P) {s : State}

include hP

/-! ### The event inputs -/

theorem countEdge (n : InputNo) (b : Binding) (h : P s) : P (s.countEdge n b) := by
  unfold State.countEdge
  dsimp only
  split
  · rename_i hroom
    exact hP.frame (hP.setInput (n := n) (i := { s.inputs[n] with pending := s.inputs[n].pending + 1 })
      (.inl hroom) h) rfl
  · exact hP.report _ _ _ _ (hP.setPartFlag _ h)

theorem makeClaim (h : P s) : P s.makeClaim := hP.frame h (by simp [State.counted])

theorem chordAfterChange (x y : BitVec 4) (h : P s) : P (s.chordAfterChange x y) :=
  hP.frame h (by simp [State.counted])

theorem acceptChange (n : InputNo) (v : BitVec 4) (h : P s) : P (s.acceptChange n v) := by
  have hlevels : P { s with levels := some (v ^^^ (1#4 <<< n.val)) } := hP.frame h rfl
  have hreset := hP.setInput (s := { s with levels := some (v ^^^ (1#4 <<< n.val)) }) (n := n)
    (i := { s.inputs[n] with debounceCount := 0 }) (.inr rfl) hlevels
  have hchanged (u : State) (rising : Bool) (hu : P u) : P (u.setInput n (u.inputs[n].afterChange rising)) :=
    hP.setInput (.inr (InputState.afterChange_pending _ _)) hu
  unfold State.acceptChange
  refine hP.makeClaim ?_
  dsimp only
  have hedge : ∀ (b : Binding) (c : Bool) (u : State), P u → P (if c then u.countEdge n b else u) := by
    intro b c u hu
    cases c
    · exact hu
    · exact hP.countEdge n b hu
  split
  · refine hP.chordAfterChange _ _ ?_
    split
    · exact hreset
    · exact hchanged _ _ (hedge _ _ _ hreset)
  · split
    · exact hreset
    · exact hchanged _ _ (hedge _ _ _ hreset)

theorem enterStuck (n : InputNo) (b : Binding) (h : P s) : P (s.enterStuck n b) :=
  hP.report _ _ _ _ (hP.setPartFlag _ (hP.setInput (.inr rfl) h))

theorem fireChord (h : P s) : P s.fireChord := hP.handSweeps _ (hP.frame h rfl)

theorem sample (v : BitVec 4) (h : P s) : P (s.sample v) := by
  have hinputs {f : InputNo → InputState} (hf : ∀ n : InputNo, (f n).pending = s.inputs[n].pending) :
      P { s with inputs := Vector.ofFn f } :=
    hP.frame h (by simp only [State.counted, inputs_map_pending_ofFn hf])
  unfold State.sample
  split
  · exact hP.frame (hinputs (f := fun n => { s.inputs[n] with
        debounceCount := 0
        stuck := if v.getLsbD n.val && (s.binding n).isSome then .pressed else .inactive
        stuckTimer := 0 }) fun _ => rfl) rfl
  · rename_i levels _
    exact hP.frame (hinputs (f := s.sampledInput v levels) fun _ => rfl) rfl

theorem expireInterval (w : WindowNo) (h : P s) : P (s.expireInterval w) := by
  have hcount : P { s.restartInterval w with intervalDue := s.intervalDue &&& ~~~(windowMask w) } := hP.frame h rfl
  unfold State.expireInterval
  dsimp only
  split
  · exact hcount
  · split
    · exact hcount
    · exact hP.handSweep _ hcount

/-! ### Tick increments -/

theorem settleChange (n : InputNo) (h : P s) : P ((s.settleChange n).getD s) := by
  unfold State.settleChange
  split
  · split
    · exact hP.acceptChange n _ h
    · exact h
  · exact h

theorem settleStuck (n : InputNo) (h : P s) : P ((s.settleStuck n).getD s) := by
  unfold State.settleStuck
  split
  · split
    · exact hP.enterStuck n _ h
    · exact h
  · exact h

theorem settleChord (h : P s) : P (s.settleChord.getD s) := by
  unfold State.settleChord
  split
  · exact hP.fireChord h
  · exact h

theorem settleInterval (w : WindowNo) (h : P s) : P ((s.settleInterval w).getD s) := by
  unfold State.settleInterval
  split
  · exact hP.expireInterval w h
  · exact h

theorem settle (h : P s) : P s.settle := by
  have hexpired := of_foldl_getD (f := State.expire) (List.finRange 32) (fun _ d hu => hP.expire d hu) h
  have hchanged := of_foldl_getD (f := State.settleChange) (List.finRange 4) (fun _ n hu => hP.settleChange n hu)
    hexpired
  have hstuck := of_foldl_getD (f := State.settleStuck) (List.finRange 4) (fun _ n hu => hP.settleStuck n hu) hchanged
  have hfired := hP.settleChord hstuck
  unfold State.settle
  exact of_foldl_getD (f := State.settleInterval) (List.finRange 16) (fun _ w hu => hP.settleInterval w hu) hfired

theorem passTick (v : BitVec 4) (h : P s) : P (s.passTick v) := by
  have hcounted : P { s.settle.countTick with evLevels := v, newCounts := 0 } :=
    hP.frame (hP.settle h) (by simp [State.counted])
  unfold State.passTick
  dsimp only
  split
  · exact hP.sample v (hP.frame hcounted (by simp [State.counted]))
  · exact hcounted

/-! ### Claims and sweeps -/

theorem eventServed (n : InputNo) (h : P s) : P (s.eventServed n) :=
  hP.frame (hP.setInput (n := n) (i := { s.inputs[n] with pending := 0 }) (.inl (Nat.zero_le _)) h) rfl

theorem takeEventClaim (h : P s) : P (s.takeEventClaim.getD s) := by
  unfold State.takeEventClaim
  split
  · exact h
  · rename_i n _
    split
    · exact h
    · rename_i b _
      split
      · exact h
      · split
        · exact hP.makeClaim (hP.report _ _ _ _ (hP.setPartFlag _ (hP.eventServed _ h)))
        · cases s.record b.window with
          | none => exact h
          | some r => exact hP.makeClaim (hP.accept _ _ (hP.eventServed _ h))

theorem acceptSweepItem (sw : Sweep) (r : WindowRecord) (h : P s) : P (s.acceptSweepItem sw r) := by
  have htaken : P { s with engine := some { sw with inFlight := .accepted } } := hP.frame h rfl
  unfold State.acceptSweepItem
  dsimp only
  split
  · split
    · exact hP.openCleared _ _ _ _ _ htaken
    · exact hP.setEntry (.inl (by simp [Entry.queue])) htaken
  · exact hP.accept _ _ htaken

theorem takeSweepClaim (h : P s) : P (s.takeSweepClaim.getD s) := by
  unfold State.takeSweepClaim
  split
  · exact h
  · split
    · exact h
    · split
      · exact h
      · split
        · exact hP.resolveItem _ _ h
        · exact hP.acceptSweepItem _ _ h

theorem takeReleaseClaim (h : P s) : P (s.takeReleaseClaim.getD s) := by
  have htaken : P { s with releaseClaim := none } := hP.frame h rfl
  unfold State.takeReleaseClaim
  split
  · exact h
  · split
    · exact h
    · dsimp only
      split
      · split
        · rename_i w _ _
          cases s.record w with
          | none => exact h
          | some r => exact hP.openCleared _ _ _ _ _ htaken
        · exact h
      · exact hP.completeCommand _ htaken

theorem beginSweep (h : P s) : P (s.beginSweep.getD s) := by
  unfold State.beginSweep
  split
  · rename_i q rest _ hq
    cases s.record q.window with
    | none => exact h
    | some r => exact hP.frame (hP.dropSweep (q := [q]) hq h) rfl
  · exact h

theorem closeHeader (h : P s) : P (s.closeHeader.getD s) := hP.frame h (by simp [State.counted])

theorem abandonHeader (h : P s) : P (s.abandonHeader.getD s) := hP.frame h (by simp [State.counted])

theorem closeSweep (h : P s) : P (s.closeSweep.getD s) := by
  unfold State.closeSweep
  split
  · exact h
  · split
    · exact hP.setPartFlagIf _ _ (hP.setSweepDone _ (hP.frame h rfl))
    · exact h

theorem endAbandoned (h : P s) : P (s.endAbandoned.getD s) := by
  unfold State.endAbandoned
  split
  · exact h
  · rename_i sw _
    have hreported : P ({ s with engine := none }.reportAbandoned sw) := hP.report _ _ _ _ (hP.frame h rfl)
    dsimp only
    split
    · exact h
    · split
      · exact hreported
      · split
        · exact hP.setPartFlagIf _ _ hreported
        · exact h

/-! ### BOOT -/

theorem applyBootLine (x : SetupSlot) (h : P s) : P (s.applyBootLine x) := by
  have hboot (b : BootSettings) : P { s with boot := b } := hP.frame h rfl
  unfold State.applyBootLine
  split
  · dsimp only
    split
    · refine hP.setupInvalid _ _ _ ?_
      split
      · exact hP.setupInvalid _ _ _ (hboot _)
      · exact hboot _
    · split
      · exact hP.setupInvalid _ _ _ (hboot _)
      · exact hboot _
  · exact hP.setupInvalid _ _ _ (hboot _)

theorem applyLogLine (x : SetupSlot) (h : P s) : P (s.applyLogLine x) := by
  have hlog (base : LineAddr) (style : LogStyle) : P { s with logBase := base, logStyle := style } := hP.frame h rfl
  unfold State.applyLogLine
  split
  · dsimp only
    split
    · exact hP.setupInvalid _ _ _ (hlog _ _)
    · exact hlog _ _
    · split
      · exact hP.setupInvalid _ _ _ (hlog _ _)
      · exact hlog _ _
  · exact hP.setupInvalid _ _ _ (hlog s.logBase _)

theorem applyBootSettings (h : P s) : P s.applyBootSettings :=
  hP.frame (hP.applyLogLine s.setup[3] (hP.applyBootLine s.setup[2] h)) rfl

theorem formPinned (h : P s) : P s.formPinned := by
  have hstart : P { s.startStatus with logQueue := [] } :=
    hP.dropLog (q := s.startStatus.logQueue) (List.append_nil _).symm (hP.startStatus h)
  exact List.foldlRecOn _ State.takeIncident (hP.frame hstart rfl) fun _ hb i _ => hP.takeIncident i hb

/-! ### LOADING -/

theorem enterLoading (h : P s) : P s.enterLoading := hP.enter _ (hP.frame h rfl)

theorem judgeMasks (h : P s) : P s.judgeMasks := by
  unfold State.judgeMasks
  split
  · exact hP.frame h rfl
  · exact hP.setupInvalid _ _ _ (hP.frame h rfl)

theorem judgeInterval (w : WindowNo) (h : P s) : P (s.judgeInterval w) := by
  unfold State.judgeInterval
  split
  · exact hP.setupInvalid _ _ _ h
  · exact h

theorem foldl_judgeInterval (ws : List WindowNo) (h : P s) : P (ws.foldl State.judgeInterval s) :=
  List.foldlRecOn ws State.judgeInterval h fun _ hb w _ => hP.judgeInterval w hb

theorem judgeIntervals (h : P s) : P s.judgeIntervals := by
  have hlow {u : State} (hu : P u) (x : Line) : P { u with live.intervalsLow := x } := hP.frame hu rfl
  have hhigh {u : State} (hu : P u) (x : Line) : P { u with live.intervalsHigh := x } := hP.frame hu rfl
  unfold State.judgeIntervals
  dsimp only
  split
  · refine hP.foldl_judgeInterval _ (hhigh ?_ _)
    split
    · exact hP.foldl_judgeInterval _ (hlow h _)
    · exact hP.setupInvalid _ _ _ (hlow h _)
  · refine hP.setupInvalid _ _ _ (hhigh ?_ _)
    split
    · exact hP.foldl_judgeInterval _ (hlow h _)
    · exact hP.setupInvalid _ _ _ (hlow h _)

theorem judgeWindow (w : WindowNo) (h : P s) : P (s.judgeWindow w) := by
  unfold State.judgeWindow
  split
  · split
    · exact h
    · split
      · exact hP.setupInvalid _ _ _ h
      · split
        · exact hP.setupInvalid _ _ _ h
        · exact hP.frame h rfl
  · exact hP.setupInvalid _ _ _ h

theorem judgeWindows (h : P s) : P s.judgeWindows :=
  List.foldlRecOn _ State.judgeWindow (hP.frame h rfl) fun _ hb w _ => hP.judgeWindow w hb

theorem judgeBinding (n : InputNo) (h : P s) : P (s.judgeBinding n) := by
  have hset (x : Option Binding) : P { s with bindings := s.bindings.set n x } := hP.frame h rfl
  unfold State.judgeBinding
  split
  · dsimp only
    split
    · exact hset _
    · split
      · exact hP.setupInvalid _ _ _ (hset _)
      · exact hset _
  · exact hP.setupInvalid _ _ _ (hset _)

theorem judgeBindings (h : P s) : P s.judgeBindings :=
  List.foldlRecOn _ State.judgeBinding h fun _ hb n _ => hP.judgeBinding n hb

theorem judgeChord (h : P s) : P s.judgeChord := by
  have hset (c : ChordSetting) : P { s with chord := c } := hP.frame h rfl
  unfold State.judgeChord
  split
  · dsimp only
    split
    · exact hP.setupInvalid _ _ _ (hset _)
    · exact hset _
  · exact hP.setupInvalid _ _ _ (hset _)

theorem judgeAll (h : P s) : P s.judgeAll :=
  hP.judgeChord (hP.judgeBindings (hP.judgeWindows (hP.judgeIntervals (hP.judgeMasks h))))

theorem writeArmingResult (h : P s) : P s.writeArmingResult := by
  unfold State.writeArmingResult
  split
  · exact hP.completeCommand _ h
  · exact hP.frame h rfl

theorem loadCounters (h : P s) : P s.loadCounters := hP.frame (hP.emptyList h) rfl

theorem setWasActive (b : Bool) (h : P s) : P { s with wasActive := b } := hP.frame h rfl

theorem completeLoading (h : P s) : P s.completeLoading := by
  have hswept (qs : List SweepRequest) := hP.handSweeps qs (hP.resetInputs (hP.loadCounters (hP.judgeAll h)))
  unfold State.completeLoading
  exact hP.enter _ (hP.writeArmingResult (hP.setWasActive true (hswept _)))

theorem drainingToPass (h : P s) : P ((s.emptyTables.completeCommand .ok).enter .pass) :=
  hP.enter _ (hP.completeCommand _ (hP.frame (hP.emptyList h) rfl))

/-! ### Commands -/

theorem runDisarm (h : P s) : P s.runDisarm := by
  unfold State.runDisarm
  split
  · have hempty : P { s with sweepQueue := [] } := hP.dropSweep (q := s.sweepQueue) (List.append_nil _).symm h
    have habandoned : P s.abandonSweeps := hP.frame hempty rfl
    exact hP.enter _ (hP.frame (hP.resetInputs habandoned) rfl)
  · exact hP.completeCommand _ h

theorem runRearm (b : Byte) (h : P s) : P (s.runRearm b) := by
  unfold State.runRearm
  split
  · exact hP.completeCommand _ h
  · split
    · exact hP.completeCommand _ (hP.frame h rfl)
    · split
      · exact hP.completeCommand _ h
      · split
        · exact hP.completeCommand _ (hP.frame h rfl)
        · exact hP.completeCommand _ h

theorem handCounted (qs : List SweepRequest) (h : P s) : P (s.handCounted qs).1 :=
  List.foldlRecOn (motive := fun acc : State × Bool => P acc.1) qs _ h fun _ hb q _ => hP.handSweep q hb

theorem runSweep (w a : Byte) (h : P s) : P (s.runSweep w a) := by
  have hcommanded (x : SweepAction) (ws : List WindowNo) : P (s.handCommanded x ws) :=
    hP.completeCommand _ (hP.handCounted _ h)
  unfold State.runSweep
  split
  · exact hP.completeCommand _ h
  · split
    · exact hP.completeCommand _ h
    · split
      · exact hcommanded _ _
      · split
        · exact hP.completeCommand _ h
        · exact hcommanded _ _

theorem runRelease (a : ByteAddr) (h : P s) : P (s.runRelease a) := by
  unfold State.runRelease
  split
  · exact hP.completeCommand _ h
  · split
    · exact hP.frame h rfl
    · exact hP.completeCommand _ h

theorem runArm (h : P s) : P s.runArm := by
  unfold State.runArm
  split
  · exact hP.enterLoading h
  · exact hP.completeCommand _ h

theorem runCommand (c : CommandLine) (h : P s) : P (s.runCommand c) := by
  unfold State.runCommand
  split
  · exact hP.runArm h
  · split
    · exact hP.runDisarm h
    · split
      · exact hP.runRearm _ h
      · split
        · exact hP.runSweep _ _ h
        · split
          · exact hP.runRelease _ h
          · split
            · exact hP.completeCommand _ (hP.zeroHeld h)
            · exact hP.completeCommand _ h

theorem takeIntervals (k : Nat) (e : Enables) (h : P s) : P (s.takeIntervals k e) :=
  List.foldlRecOn _ _ h fun _ hb w _ => hP.frame (hP.judgeInterval w hb) rfl

theorem takeSetting (k : Nat) (e : Enables) (d : Line) (h : P s) : P (s.takeSetting k e d) := by
  have hlive (c : LiveCopies) : P { s with live := c } := hP.frame h rfl
  unfold State.takeSetting
  split
  · split
    · exact hP.frame h rfl
    · exact h
  · split
    · exact h
    · split
      · exact hlive _
      · split
        · exact hP.takeIntervals _ _ (hlive _)
        · split
          · exact hP.takeIntervals _ _ (hlive _)
          · exact h

/-! ### The Upstream Port -/

theorem acceptPass (q : UpRequest) (hroom : s.passQueue.length < 8) (h : P s) : P (s.acceptPass q) :=
  hP.queuePass (s := s.leave.addOutstanding q.tag) ⟨q.tag, lineOf q.addr, q.body⟩ hroom
    (hP.addOutstanding _ (hP.frame h rfl))

theorem servePass (q : UpRequest) (h : P s) : P (s.servePass q) := by
  unfold State.servePass
  split
  · rename_i hroom
    exact hP.acceptPass q hroom h
  · exact h

theorem serveControl (q : UpRequest) (k : Nat) (h : P s) : P (s.serveControl q k) := by
  unfold State.serveControl
  split
  · exact hP.servePass q h
  · split
    · exact hP.refuse _ _ _ h
    · split
      · rename_i hroom
        exact hP.takeSetting _ _ _ (hP.acceptPass q hroom h)
      · exact h

theorem servePartOwned (q : UpRequest) (h : P s) : P (s.servePartOwned q) := by
  unfold State.servePartOwned
  split
  · exact hP.servePass q h
  · exact hP.refuse _ _ _ h

theorem serveCommand (q : UpRequest) (h : P s) : P (s.serveCommand q) := by
  unfold State.serveCommand
  split
  · exact hP.frame h rfl
  · split
    · exact hP.refuse _ _ _ h
    · split
      · exact hP.refuse _ _ _ h
      · exact hP.runCommand _ (hP.frame h rfl)

theorem serveWindow (q : UpRequest) (w : WindowNo) (r : WindowRecord) (h : P s) : P (s.serveWindow q w r) := by
  have hleave : P s.leave := hP.frame h rfl
  have hanswered (x : Result) : P (s.answerHead q x none) := hP.frame h rfl
  unfold State.serveWindow
  dsimp only
  split
  · split
    · exact hanswered _
    · unfold State.postRead
      split
      · refine hP.accept _ _ ?_
        split
        · exact hP.addOutstanding _ hleave
        · exact hleave
      · exact h
  · split
    · exact hanswered _
    · split
      · exact hP.refuse _ _ _ h
      · split
        · exact hP.refuse _ _ _ h
        · unfold State.postUpdate
          split
          · exact hP.accept _ _ (hanswered _)
          · exact h

/-- An examination keeps what the read-clear of the flags also keeps. -/
theorem examine (hclear : ∀ {u : State}, P u → P u.clearFlags) (q : UpRequest) (h : P s) : P (s.examine q) := by
  unfold State.examine
  split
  · exact hP.refuse _ _ _ h
  · split
    · unfold State.serveStatus
      split
      · exact hclear (hP.frame h rfl)
      · exact hP.refuse _ _ _ h
    · exact hP.serveCommand q h
    · exact hP.serveControl q _ h
    · exact hP.servePartOwned q h
    · exact hP.servePartOwned q h
    · exact hP.servePass q h
    · split
      · exact hP.serveWindow q _ _ h
      · exact hP.servePass q h

/-! ### Every effect -/

/-- What the plain updates, a reset and the read-clear keep, every effect keeps. -/
theorem keptByEveryEffect (hreset : ∀ {u : State} (k : ResetKind) (b : Bool), P u → P (u.afterReset k b))
    (hclear : ∀ {u : State}, P u → P u.clearFlags) : KeptByEveryEffect P where
  commit h := hP.frame h rfl
  withPending q h := hP.frame h rfl
  passCycle n h := hP.frame h rfl
  afterReset k b h := hreset k b h
  beginBoot sel h := hP.frame h rfl
  applyBootSettings h := hP.applyBootSettings h
  formPinned h := hP.formPinned h
  bootToLoading _ h := hP.enterLoading h
  bootToPass _ h := hP.enter _ h
  completeLoading h := hP.completeLoading h
  drainingToPass _ h := hP.drainingToPass h
  head q h := hP.frame h rfl
  examine q h := hP.examine hclear q h
  passTick v h := hP.passTick v h
  settleChange n h := hP.settleChange n h
  settleStuck n h := hP.settleStuck n h
  settleChord h := hP.settleChord h
  settleInterval w h := hP.settleInterval w h
  expire d h := hP.expire d h
  takeEventClaim _ h := hP.takeEventClaim h
  takeSweepClaim _ h := hP.takeSweepClaim h
  takeReleaseClaim _ h := hP.takeReleaseClaim h
  beginSweep h := hP.beginSweep h
  closeHeader h := hP.closeHeader h
  closeSweep h := hP.closeSweep h
  abandonHeader h := hP.abandonHeader h
  endAbandoned h := hP.endAbandoned h
  grantNext h := hP.grantNext h
  presentNext h := hP.frame h (by simp [State.counted])
  sendResponse h := hP.frame h (by simp [State.counted])
  takeResponse r h := hP.takeResponse r h

end ClosedUnderUpdates

end Sys2Proof.Machine
end

section
/-!
SUPPORT. The capacities of Table 0-3 under the plain updates, and with them O57.
-/

namespace Sys2Proof.Machine

namespace State.WithinCapacities

variable {s t : State}

/-- The capacities speak of nothing but the queues, lists and counts. -/
theorem frame (h : s.WithinCapacities) (heq : t.counted = s.counted) : t.WithinCapacities := by
  simp only [State.counted, Prod.mk.injEq] at heq
  obtain ⟨-, hpass, hentries, hsuspects, hsweep, hlog, hheld, hout, hinputs⟩ := heq
  refine ⟨hpass ▸ h.passQueue, fun i => ?_, hsuspects ▸ h.suspects, hsweep ▸ h.sweepQueue, hsweep ▸ h.sweepOnce,
    hlog ▸ h.logQueue, hheld ▸ h.logHeld, hout ▸ h.outstanding, fun n => ?_⟩
  · have hi := congrArg (fun v => v[i]) hentries
    simp only [Fin.getElem_fin, Vector.getElem_map] at hi
    exact hi ▸ h.itemQueues i
  · have hn := congrArg (fun v => v[n]) hinputs
    simp only [Fin.getElem_fin, Vector.getElem_map] at hn
    exact hn ▸ h.pending n

theorem setPartFlag (f : PartFlag) (h : s.WithinCapacities) : (s.setPartFlag f).WithinCapacities := { h with }

/-- R162: a full log queue drops the incident, and the held count stops at 32. -/
theorem takeIncident (i : Incident) (h : s.WithinCapacities) : (s.takeIncident i).WithinCapacities := by
  unfold State.takeIncident
  split
  · exact h
  · split
    · exact h.setPartFlag _
    · split
      · exact h.setPartFlag _
      · rename_i hroom
        refine { h with logQueue := ?_, logHeld := ?_ }
        · simp only [Config.logQueuePlaces] at hroom
          simp only [List.length_append, List.length_cons, List.length_nil]
          omega
        · have hheld := h.logHeld
          simp only [Config.logLines]
          split <;> omega

theorem keepIncident (i : Incident) (h : s.WithinCapacities) : (s.keepIncident i).WithinCapacities := by
  unfold State.keepIncident
  split
  · rename_i hroom
    refine { h with logQueue := ?_ }
    simp only [Config.logQueuePlaces] at hroom
    simp only [List.length_append, List.length_cons, List.length_nil]
    omega
  · exact h.setPartFlag _

theorem startStatus (h : s.WithinCapacities) : s.startStatus.WithinCapacities := by
  unfold State.startStatus
  split
  · exact { h with logHeld := Nat.min_le_right _ _ }
  · exact { h with logHeld := Nat.zero_le _ }

theorem addOutstanding (tag : UpTag) (h : s.WithinCapacities) : (s.addOutstanding tag).WithinCapacities := by
  refine { h with outstanding := ?_ }
  unfold State.addOutstanding
  dsimp only
  split
  · exact h.outstanding
  · rename_i hnew
    exact List.nodup_append_comm.1 (List.nodup_cons.2 ⟨by simpa using hnew, h.outstanding⟩)

theorem setEntry {i : Fin 12} {e : Entry} (he : e.queue.length ≤ 8 ∨ e.queue = s.entries[i].queue)
    (h : s.WithinCapacities) : (s.setEntry i e).WithinCapacities := by
  refine { h with itemQueues := fun j => ?_ }
  by_cases hij : i = j
  · subst hij
    obtain he | he := he
    · simpa [State.setEntry] using he
    · simpa [State.setEntry, he] using h.itemQueues i
  · simpa [State.setEntry, Vector.getElem_set, Fin.val_inj, hij] using h.itemQueues j

/-- R119: a request is queued only for a window with none queued, and where a place is free. -/
theorem queueSweep (q : SweepRequest) (hq : s.dropsSweep q = false) (h : s.WithinCapacities) :
    State.WithinCapacities { s with sweepQueue := s.sweepQueue ++ [q] } := by
  obtain ⟨hnone, hroom⟩ := Bool.or_eq_false_iff.1 hq
  refine { h with sweepQueue := ?_, sweepOnce := ?_ }
  · simp only [Config.sweepQueuePlaces, decide_eq_false_iff_not] at hroom
    simp only [List.length_append, List.length_cons, List.length_nil]
    omega
  · rw [List.map_append, List.nodup_append_comm]
    refine List.nodup_cons.2 ⟨fun hmem => ?_, h.sweepOnce⟩
    obtain ⟨p, hp, hw⟩ := List.mem_map.1 hmem
    simpa [hw] using List.any_eq_false.1 hnone p hp

theorem setInput {n : InputNo} {i : InputState} (hi : i.pending ≤ 15 ∨ i.pending = s.inputs[n].pending)
    (h : s.WithinCapacities) : (s.setInput n i).WithinCapacities := by
  refine { h with pending := fun m => ?_ }
  by_cases hnm : n = m
  · subst hnm
    obtain hi | hi := hi
    · simpa [State.setInput] using hi
    · simpa [State.setInput, hi] using h.pending n
  · simpa [State.setInput, Vector.getElem_set, Fin.val_inj, hnm] using h.pending m

/-- The capacities hold after a reset, which empties everything. -/
theorem reset : State.reset.WithinCapacities where
  passQueue := by decide
  itemQueues := by decide
  suspects := by decide
  sweepQueue := by decide
  sweepOnce := by decide
  logQueue := by decide
  logHeld := by decide
  outstanding := by decide
  pending := by decide

end State.WithinCapacities

theorem withinCapacities_closedUnderUpdates : ClosedUnderUpdates State.WithinCapacities where
  frame h heq := h.frame heq
  setPartFlag f h := h.setPartFlag f
  setWindowFlag w h := { h with }
  setSweepDone w h := { h with }
  keepIncident i h := h.keepIncident i
  takeIncident i h := h.takeIncident i
  startStatus h := h.startStatus
  dropLog hq h := { h with logQueue := le_trans (by simp [hq]) h.logQueue }
  zeroHeld h := { h with logHeld := Nat.zero_le _ }
  answer tag r d h := { h with outstanding := h.outstanding.filter _ }
  addOutstanding tag h := h.addOutstanding tag
  queuePass p hroom h := { h with passQueue := by simpa using hroom }
  dropPass hq h := { h with passQueue := le_trans (by simp [hq]) h.passQueue }
  setEntry he h := h.setEntry he
  delist l h := { h with suspects := le_trans (List.length_filter_le _ _) h.suspects }
  listLine l hroom h := { h with suspects := by simpa using hroom }
  emptyList h := { h with suspects := Nat.zero_le _ }
  queueSweep q hq h := h.queueSweep q hq
  dropSweep {_ q rest} hq h :=
    have hsub : rest.Sublist (q ++ rest) := List.sublist_append_right q rest
    { h with
      sweepQueue := le_trans (hq ▸ hsub.length_le) h.sweepQueue
      sweepOnce := List.Nodup.sublist (hq ▸ hsub.map _) h.sweepOnce }
  setInput hi h := h.setInput hi
  resetInputs h := { h with pending := by simp [State.resetInputs, InputState.reset] }

theorem withinCapacities_keptByEveryEffect : KeptByEveryEffect State.WithinCapacities :=
  withinCapacities_closedUnderUpdates.keptByEveryEffect
    (fun _ _ _ => State.WithinCapacities.reset.frame rfl) fun h => { h with }

/-- Settles O57. -/
theorem stepsKeepCapacities : Obligations.StepsKeepCapacities :=
  fun _ _ h hstep => withinCapacities_keptByEveryEffect.step h hstep

end Sys2Proof.Machine
end

section
/-!
SUPPORT. The statements about the step, the reset values and the start of BOOT.
-/

namespace Sys2Proof.Machine

/-- Settles O1. -/
theorem stepRunsTheFrontCommand : Obligations.StepRunsTheFrontCommand := by
  intro c rest s h
  simp only [step, h]
  rfl

/-- An empty queue passes one cycle. -/
theorem step_of_pending_nil {s : State} (h : s.pending = []) : step s = .next s.passCycle := by
  simp only [step, h]

/-- Settles O2. -/
theorem emptyQueuePassesOneCycle : Obligations.EmptyQueuePassesOneCycle := by
  intro s h
  rw [step_of_pending_nil h]
  refine ⟨fun hr => ?_, fun hr hlt => ?_, fun hr hle => ?_⟩
  · rw [State.passCycle, if_pos hr]
  · rw [State.passCycle, if_neg hr, if_neg (Nat.not_le.2 hlt)]
  · rw [State.passCycle, if_neg hr, if_pos hle, exec_tickIncrement, if_neg hr, finish_some]

/-- Settles O4. -/
theorem resetLeavesTheStatedValues : Obligations.ResetLeavesTheStatedValues := by
  unfold Obligations.ResetLeavesTheStatedValues
  decide

/-- After a reset the pinned entries are empty and no flag is set, so the step's end changes nothing. -/
theorem commit_afterReset (s : State) (k : ResetKind) (b : Bool) : s.commit (s.afterReset k b) = s.afterReset k b := rfl

/-- Settles O5. -/
theorem resetsClearTheBridge : Obligations.ResetsClearTheBridge := by
  intro s
  rw [exec_powerOnReset, exec_warmReset, finish_some, finish_some, commit_afterReset, commit_afterReset]
  exact ⟨rfl, rfl⟩

/-- Settles O6. -/
theorem bootBeginsAtRelease : Obligations.BootBeginsAtRelease := by
  intro sel s
  rw [exec_resetRelease]
  refine ⟨fun h => ?_, fun h => ?_⟩
  · rw [if_pos h, finish_some]
    rfl
  · rw [if_neg h, finish_none]

/-- Settles O60. -/
theorem resetMeetsTheInvariants : Obligations.ResetMeetsTheInvariants :=
  ⟨State.WithinCapacities.reset, afterReset_linesHeldOnce State.reset .powerOn false,
    ⟨fun _ h => (nomatch h), fun _ h => (nomatch h)⟩, rfl⟩

end Sys2Proof.Machine
end

section
/-!
SUPPORT. What each command keeps: the commands waiting, the part state but for the moves of Table 12-1, the settings and
tables, the flags.
-/

namespace Sys2Proof.Machine

variable {s t : State} {c : Instr}

/-! ### Reading a field of a command's answer -/

/-- A field the step's end keeps stands where the effect keeps it. -/
theorem finish_field {α : Type} (f : State → α) (hcommit : ∀ u, f (s.commit u) = f u) {o : Option State}
    (ho : f (o.getD s) = f s) (h : finish s o = .next t) : f t = f s := by
  cases o with
  | none =>
    cases h
    rfl
  | some u =>
    cases h
    exact (hcommit u).trans ho

@[simp] theorem getD_ite (p : Prop) [Decidable p] (a b : Option State) :
    (if p then a else b).getD s = if p then a.getD s else b.getD s := by
  split <;> rfl

@[simp] theorem record_ite (p : Prop) [Decidable p] (a b : State) (w : WindowNo) :
    (if p then a else b).record w = if p then a.record w else b.record w := by
  split <;> rfl

theorem exec_pending (h : exec c s = .next t) : t.pending = s.pending := by
  have answer {o : Option State} (hc : exec c s = finish s o) (ho : (o.getD s).pending = s.pending) :
      t.pending = s.pending := finish_field State.pending (by simp) ho (hc ▸ h)
  cases c with
  | powerOnReset => exact answer (exec_powerOnReset s) rfl
  | warmReset => exact answer (exec_warmReset s) rfl
  | _ => exact answer rfl (by simp [apply_ite State.pending])

/-- Settles O3. -/
theorem everyCommandAnswersNext : Obligations.EveryCommandAnswersNext := by
  intro c s
  obtain ⟨o, ho⟩ := exec_eq_finish s c
  have hnext := ho.trans (finish_eq s o)
  exact ⟨_, hnext, exec_pending hnext⟩

/-- The tick counter counts tick increments (R169). -/
theorem exec_tick (hr : isReset c = false) (hc : ∀ levels, c ≠ .tickIncrement levels) (h : exec c s = .next t) :
    t.tick = s.tick := by
  have answer {o : Option State} (he : exec c s = finish s o) (ho : (o.getD s).tick = s.tick) : t.tick = s.tick :=
    finish_field State.tick (by simp) ho (he ▸ h)
  cases c with
  | powerOnReset | warmReset => contradiction
  | tickIncrement levels => exact absurd rfl (hc levels)
  | _ => exact answer rfl (by simp [apply_ite State.tick])

/-- SETUP_SEL is sampled at the start of BOOT (R148). -/
theorem exec_setupSel (hc : ∀ sel, c ≠ .resetRelease sel) (h : exec c s = .next t) : t.setupSel = s.setupSel := by
  have answer {o : Option State} (he : exec c s = finish s o) (ho : (o.getD s).setupSel = s.setupSel) :
      t.setupSel = s.setupSel := finish_field State.setupSel (by simp) ho (he ▸ h)
  cases c with
  | powerOnReset => exact answer (exec_powerOnReset s) rfl
  | warmReset => exact answer (exec_warmReset s) rfl
  | resetRelease sel => exact absurd rfl (hc sel)
  | _ => exact answer rfl (by simp [apply_ite State.setupSel])

/-- The log region and style are settled in BOOT (R149). -/
theorem exec_logRegion (hr : isReset c = false) (hc : c ≠ .bootSettingsApplied) (h : exec c s = .next t) :
    t.logStyle = s.logStyle ∧ t.logBase = s.logBase := by
  have answer {o : Option State} (he : exec c s = finish s o)
      (ho : (o.getD s).logStyle = s.logStyle ∧ (o.getD s).logBase = s.logBase) :
      t.logStyle = s.logStyle ∧ t.logBase = s.logBase :=
    ⟨finish_field State.logStyle (by simp) ho.1 (he ▸ h), finish_field State.logBase (by simp) ho.2 (he ▸ h)⟩
  cases c with
  | powerOnReset | warmReset => contradiction
  | bootSettingsApplied => contradiction
  | _ => exact answer rfl (by simp [apply_ite State.logStyle, apply_ite State.logBase])

/-- The Window Table, the bindings, the chord setting and the was-active flag change at the ends of LOADING and DRAINING
(R43, R130, R171). -/
theorem exec_tables (hr : isReset c = false) (hl : c ≠ .loadingComplete) (hd : c ≠ .drainingEnd)
    (h : exec c s = .next t) : (∀ w : WindowNo, t.record w = s.record w) ∧ t.bindings = s.bindings ∧ t.chord = s.chord ∧
      t.wasActive = s.wasActive := by
  have answer {o : Option State} (he : exec c s = finish s o)
      (ho : (∀ w : WindowNo, (o.getD s).record w = s.record w) ∧ (o.getD s).bindings = s.bindings ∧
        (o.getD s).chord = s.chord ∧ (o.getD s).wasActive = s.wasActive) :
      (∀ w : WindowNo, t.record w = s.record w) ∧ t.bindings = s.bindings ∧ t.chord = s.chord ∧
        t.wasActive = s.wasActive :=
    ⟨fun w => finish_field (State.record · w) (by simp) (ho.1 w) (he ▸ h),
      finish_field State.bindings (by simp) ho.2.1 (he ▸ h), finish_field State.chord (by simp) ho.2.2.1 (he ▸ h),
      finish_field State.wasActive (by simp) ho.2.2.2 (he ▸ h)⟩
  cases c with
  | powerOnReset | warmReset | loadingComplete | drainingEnd => contradiction
  | _ =>
    exact answer rfl (by simp [apply_ite State.bindings, apply_ite State.chord,
      apply_ite State.wasActive])

/-- The boot settings without the protect setting, which a write of line 2 changes (R151). -/
def State.settledBoot (s : State) : BootSettings := { s.boot with protect := false }

@[simp] theorem takeSetting_settledBoot (k : Nat) (e : Enables) (d : Line) :
    (s.takeSetting k e d).settledBoot = s.settledBoot := by
  have intervals (u : State) (n : Nat) : (u.takeIntervals n e).settledBoot = u.settledBoot := by
    simp [State.settledBoot]
  unfold State.takeSetting
  split
  · split <;> rfl
  · split
    · rfl
    · split
      · rfl
      · split
        · exact intervals _ 5
        · split
          · exact intervals _ 6
          · rfl

@[simp] theorem examine_settledBoot (q : UpRequest) : (s.examine q).settledBoot = s.settledBoot := by
  have of_boot {u : State} (h : u.boot = s.boot) : u.settledBoot = s.settledBoot := by
    simp only [State.settledBoot, h]
  unfold State.examine
  split
  · exact of_boot (by simp)
  · split
    · exact of_boot (by simp)
    · exact of_boot (by simp)
    · unfold State.serveControl
      split
      · exact of_boot (by simp)
      · split
        · exact of_boot (by simp)
        · split
          · rw [takeSetting_settledBoot]
            exact of_boot (by simp)
          · rfl
    · exact of_boot (by simp)
    · exact of_boot (by simp)
    · exact of_boot (by simp)
    · split <;> exact of_boot (by simp)

@[simp] theorem examineHead_settledBoot : s.examineHead.settledBoot = s.settledBoot := by
  unfold State.examineHead
  split
  · split
    · exact examine_settledBoot _
    · rfl
  · rfl

/-- The boot settings but protect are settled in BOOT (R149, R151). -/
theorem exec_settledBoot (hr : isReset c = false) (hc : c ≠ .bootSettingsApplied) (h : exec c s = .next t) :
    t.settledBoot = s.settledBoot := by
  have answer {o : Option State} (he : exec c s = finish s o) (ho : (o.getD s).settledBoot = s.settledBoot) :
      t.settledBoot = s.settledBoot := finish_field State.settledBoot (by simp [State.settledBoot]) ho (he ▸ h)
  have same {o : Option State} (he : exec c s = finish s o) (ho : (o.getD s).boot = s.boot) :
      t.settledBoot = s.settledBoot := answer he (by simp only [State.settledBoot, ho])
  have served {q : UpRequest} (he : exec c s = finish s (s.arrive q)) : t.settledBoot = s.settledBoot := by
    refine answer he ?_
    unfold State.arrive
    split
    · rfl
    · exact (examineHead_settledBoot (s := { s with head := some q })).trans rfl
  cases c with
  | powerOnReset | warmReset | bootSettingsApplied => contradiction
  | bootEnd =>
    refine answer rfl ?_
    rw [getD_ite]
    split
    · rw [Option.getD_some]
      split
      · simp [State.settledBoot]
      · rw [examineHead_settledBoot]
        simp [State.settledBoot]
    · rfl
  | loadingComplete | drainingEnd =>
    refine answer rfl (of_ite_some (P := fun u => u.settledBoot = s.settledBoot) rfl fun _ => ?_)
    rw [examineHead_settledBoot]
    simp [State.settledBoot]
  | headReexamination =>
    exact answer rfl (of_ite_some (P := fun u => u.settledBoot = s.settledBoot) rfl fun _ => examineHead_settledBoot)
  | passThroughRequest | windowWrite | windowRead | statusLineRead | protectWrite | liveSettingWrite
  | controlAreaLineWrite | arm | disarm | rearm | sweep | release | logReset | badCommand | headRequestHeld
  | partOwnedWrite | commandWriteRefused => exact served rfl
  | _ => exact same rfl (by simp [apply_ite State.boot])

/-! ### The part state (Table 12-1) -/

/-- What the examination of a head does to the part state: nothing, or what ARM in PASS or DISARM in ACTIVE does. -/
inductive State.HeadMove (s t : State) : Prop where
  | stays (h : t.partState = s.partState)
  | arms (hs : s.partState = .pass) (ht : t.partState = .loading) (hr : t.running 0x01)
  | disarms (hs : s.partState = .active) (ht : t.partState = .draining) (hr : t.running 0x02)

theorem runCommand_headMove (k : CommandLine) (hk : s.command = k) (hr : k.state = .running) :
    s.HeadMove (s.runCommand k) := by
  have arms (h1 : k.code = 0x01) : s.HeadMove s.runArm := by
    unfold State.runArm
    split
    · rename_i hs
      exact .arms hs (by simp [State.enterLoading]) (by simp [State.running, hk, hr, h1])
    · exact .stays (by simp)
  have disarms (h2 : k.code = 0x02) : s.HeadMove s.runDisarm := by
    unfold State.runDisarm
    split
    · rename_i hs
      exact .disarms hs (by simp) (by simp [State.running, hk, hr, h2])
    · exact .stays (by simp)
  unfold State.runCommand
  split
  · exact arms ‹_›
  · split
    · exact disarms ‹_›
    · refine .stays ?_
      (repeat' split) <;> simp

theorem examine_headMove (q : UpRequest) : s.HeadMove (s.examine q) := by
  have commanded : s.HeadMove (s.serveCommand q) := by
    unfold State.serveCommand
    split
    · exact .stays (by simp)
    · split
      · exact .stays (by simp)
      · split
        · exact .stays (by simp)
        · unfold State.takeCommand
          obtain h | ⟨hs, ht, hr⟩ | ⟨hs, ht, hr⟩ := runCommand_headMove
            (s := { s.answerHead q .okay none with command := s.command.take _ }) _ rfl rfl
          · exact .stays (by simpa using h)
          · exact .arms (by simpa using hs) ht hr
          · exact .disarms (by simpa using hs) ht hr
  unfold State.examine
  split
  · exact .stays (by simp)
  · split
    · exact .stays (by simp)
    · exact commanded
    · exact .stays (by simp)
    · exact .stays (by simp)
    · exact .stays (by simp)
    · exact .stays (by simp)
    · split <;> exact .stays (by simp)

theorem examineHead_headMove : s.HeadMove s.examineHead := by
  unfold State.examineHead
  split
  · split
    · exact examine_headMove _
    · exact .stays rfl
  · exact .stays rfl

/-- A move of part state is read off the fields the step's end keeps. -/
theorem PartMove.commit {u : State} (h : PartMove c s u) : PartMove c s (s.commit u) := by
  obtain h | ⟨hc, hs, ht⟩ | ⟨hc, hs, ht⟩ | ⟨hc, hs, ht⟩ | ⟨hc, hs, ht, hr⟩ | ⟨hc, hs, ht, hr⟩ := h
  · exact .stays h
  · exact .bootEnds hc hs ht
  · exact .loadingEnds hc hs ht
  · exact .drainingEnds hc hs ht
  · exact .arms hc hs ht hr
  · exact .disarms hc hs ht hr

/-- What makes the head's move does not depend on the head. -/
theorem State.HeadMove.of_head {u : State} {q : Option UpRequest} (h : State.HeadMove { s with head := q } u) :
    s.HeadMove u := by
  obtain h | ⟨hs, ht, hr⟩ | ⟨hs, ht, hr⟩ := h
  · exact .stays h
  · exact .arms hs ht hr
  · exact .disarms hs ht hr

theorem State.HeadMove.partMove {u : State} (hc : examinesUpstream c = true) (h : s.HeadMove u) : PartMove c s u := by
  obtain h | ⟨hs, ht, hr⟩ | ⟨hs, ht, hr⟩ := h
  · exact .stays h
  · exact .arms hc hs ht hr
  · exact .disarms hc hs ht hr

/-- From PASS the examination of a head goes on to LOADING at most. -/
theorem State.HeadMove.from_pass {u : State} (hs : s.partState = .pass) (h : s.HeadMove u) :
    u.partState = .pass ∨ (u.partState = .loading ∧ u.running 0x01) := by
  obtain h | ⟨_, ht, hr⟩ | ⟨ha, _, _⟩ := h
  · exact .inl (h.trans hs)
  · exact .inr ⟨ht, hr⟩
  · simp [hs] at ha

/-- From ACTIVE the examination of a head goes on to DRAINING at most. -/
theorem State.HeadMove.from_active {u : State} (hs : s.partState = .active) (h : s.HeadMove u) :
    u.partState = .active ∨ (u.partState = .draining ∧ u.running 0x02) := by
  obtain h | ⟨hp, _, _⟩ | ⟨_, ht, hr⟩ := h
  · exact .inl (h.trans hs)
  · simp [hs] at hp
  · exact .inr ⟨ht, hr⟩

theorem exec_partMove (hr : isReset c = false) (h : exec c s = .next t) : PartMove c s t := by
  have answer {o : Option State} (he : exec c s = finish s o) (ho : PartMove c s (o.getD s)) : PartMove c s t := by
    rw [he] at h
    cases o with
    | none =>
      cases h
      exact .stays rfl
    | some u =>
      cases h
      exact ho.commit
  have served {q : UpRequest} (hc : examinesUpstream c = true) (he : exec c s = finish s (s.arrive q)) :
      PartMove c s t := by
    refine answer he ?_
    unfold State.arrive
    split
    · exact .stays rfl
    · exact (examineHead_headMove (s := { s with head := some q })).of_head.partMove hc
  cases c with
  | powerOnReset | warmReset => contradiction
  | bootEnd =>
    refine answer rfl (of_ite_some (.stays rfl) fun hdone => ?_)
    have hboot : s.partState = .boot := by
      simp only [State.bootDone, Bool.and_eq_true, beq_iff_eq] at hdone
      exact hdone.1.1.1
    refine .bootEnds rfl hboot ?_
    split
    · exact .inr (by simp [State.enterLoading])
    · exact ((examineHead_headMove (s := s.enter .pass)).from_pass (by simp)).imp id And.left
  | loadingComplete =>
    refine answer rfl (of_ite_some (.stays rfl) fun hread => ?_)
    simp only [State.settingsRead, Bool.and_eq_true, beq_iff_eq] at hread
    exact .loadingEnds rfl hread.1 ((examineHead_headMove (s := s.completeLoading)).from_active (by simp))
  | drainingEnd =>
    refine answer rfl (of_ite_some (.stays rfl) fun hdrained => ?_)
    simp only [State.drained, Bool.and_eq_true, beq_iff_eq] at hdrained
    exact .drainingEnds rfl hdrained.1.1
      ((examineHead_headMove (s := (s.emptyTables.completeCommand .ok).enter .pass)).from_pass (by simp))
  | headReexamination =>
    exact answer rfl (of_ite_some (.stays rfl) fun _ => examineHead_headMove.partMove rfl)
  | passThroughRequest | windowWrite | windowRead | statusLineRead | protectWrite | liveSettingWrite
  | controlAreaLineWrite | arm | disarm | rearm | sweep | release | logReset | badCommand | headRequestHeld
  | partOwnedWrite | commandWriteRefused => exact served rfl rfl
  | _ => exact answer rfl (.stays (by simp [apply_ite State.partState]))

/-! ### The flags (R108, R111) -/

/-- Every flag set in `s` is set in `t`. -/
def State.FlagsStand (s t : State) : Prop :=
  t.flags.window &&& s.flags.window = s.flags.window ∧ t.flags.sweepDone &&& s.flags.sweepDone = s.flags.sweepDone ∧
    t.flags.part &&& s.flags.part = s.flags.part

theorem or_and_of_and {n : Nat} {x y m : BitVec n} (h : x &&& y = y) : (x ||| m) &&& y = y := by
  ext i hi
  have hbit : (x[i] && y[i]) = y[i] := by rw [← BitVec.getElem_and, h]
  simp only [BitVec.getElem_and, BitVec.getElem_or, Bool.and_or_distrib_right, hbit]
  cases y[i] <;> simp

theorem flagsStand_closedUnderUpdates (s : State) : ClosedUnderUpdates s.FlagsStand where
  frame h heq := by
    have hflags := congrArg Prod.fst heq
    simp only [State.counted] at hflags
    simpa only [State.FlagsStand, hflags] using h
  setPartFlag f h := ⟨h.1, h.2.1, or_and_of_and h.2.2⟩
  setWindowFlag w h := ⟨or_and_of_and h.1, h.2⟩
  setSweepDone w h := ⟨h.1, or_and_of_and h.2.1, h.2.2⟩
  keepIncident i h := by
    unfold State.keepIncident
    split
    · exact h
    · exact ⟨h.1, h.2.1, or_and_of_and h.2.2⟩
  takeIncident i h := by
    unfold State.takeIncident
    split
    · exact h
    · split
      · exact ⟨h.1, h.2.1, or_and_of_and h.2.2⟩
      · split
        · exact ⟨h.1, h.2.1, or_and_of_and h.2.2⟩
        · exact h
  startStatus h := by
    unfold State.startStatus
    split
    · obtain ⟨hw, hd, hp⟩ := h
      simp only [State.FlagsStand, StatusFlags.union, BitVec.or_comm (parseFlags _).window,
        BitVec.or_comm (parseFlags _).sweepDone, BitVec.or_comm (parseFlags _).part]
      exact ⟨or_and_of_and hw, or_and_of_and hd, or_and_of_and hp⟩
    · exact h
  dropLog _ h := h
  zeroHeld h := h
  answer _ _ _ h := h
  addOutstanding _ h := h
  queuePass _ _ h := h
  dropPass _ h := h
  setEntry _ h := h
  delist _ h := h
  listLine _ _ h := h
  emptyList h := h
  queueSweep _ _ h := h
  dropSweep _ h := h
  setInput _ h := h
  resetInputs h := h

/-- A flag is cleared only by a command in which a READ of the status line can be answered (R111). -/
theorem exec_flagsStand (hr : isReset c = false) (hu : examinesUpstream c = false) (h : exec c s = .next t) :
    s.FlagsStand t := by
  have hP := flagsStand_closedUnderUpdates s
  have hs : s.FlagsStand s := ⟨BitVec.and_self, BitVec.and_self, BitVec.and_self⟩
  have answer {o : Option State} (he : exec c s = finish s o) (ho : s.FlagsStand (o.getD s)) : s.FlagsStand t := by
    rw [he] at h
    cases o with
    | none =>
      cases h
      exact hs
    | some u =>
      cases h
      exact hP.frame ho rfl
  have framed {o : Option State} (he : exec c s = finish s o) (hf : (o.getD s).flags = s.flags) : s.FlagsStand t :=
    answer he (by simpa only [State.FlagsStand, hf] using hs)
  cases c with
  | powerOnReset | warmReset | bootEnd | loadingComplete | drainingEnd | headReexamination | passThroughRequest
  | windowWrite | windowRead | statusLineRead | protectWrite | liveSettingWrite | controlAreaLineWrite | arm | disarm
  | rearm | sweep | release | logReset | badCommand | headRequestHeld | partOwnedWrite | commandWriteRefused =>
    contradiction
  | bootSettingsApplied => exact answer rfl (of_ite_some hs fun _ => hP.applyBootSettings hs)
  | statusCopyFormed => exact answer rfl (of_ite_some hs fun _ => hP.formPinned hs)
  | tickIncrement levels =>
    refine answer rfl (of_ite_none hs ?_)
    rw [Option.getD_some]
    exact hP.passTick levels hs
  | acceptedChange n => exact answer rfl (hP.settleChange n hs)
  | eventStuck n => exact answer rfl (hP.settleStuck n hs)
  | chordFires => exact answer rfl (hP.settleChord hs)
  | intervalExpiry w => exact answer rfl (hP.settleInterval w hs)
  | requestExpiry d => exact answer rfl (hP.expire d hs)
  | eventClaimTaken => exact answer rfl (of_ite hs fun _ => hP.takeEventClaim hs)
  | sweepClaimTaken => exact answer rfl (of_ite hs fun _ => hP.takeSweepClaim hs)
  | releaseClaimTaken => exact answer rfl (of_ite hs fun _ => hP.takeReleaseClaim hs)
  | sweepStart => exact answer rfl (of_ite hs fun _ => hP.beginSweep hs)
  | sweepClose => exact answer rfl (hP.closeSweep hs)
  | sweepAbandoned => exact answer rfl (hP.endAbandoned hs)
  | passResponse r | fetchResponse r | writebackResponse r | shadowResponse r | logWriteResponse r | setupResponse r
  | lateResponse r => exact answer rfl (hP.takeResponse r hs)
  | resetRelease | closingHeaderProduced | abandoningHeaderProduced | portGrant | downstreamRequestTaken
  | responseSent => exact framed rfl (by simp [apply_ite State.flags])

theorem exec_reset (hr : isReset c = true) : ∃ k b, exec c s = .next (s.afterReset k b) := by
  cases c with
  | powerOnReset => exact ⟨.powerOn, false, by rw [exec_powerOnReset, finish_some, commit_afterReset]⟩
  | warmReset => exact ⟨.warm, s.wasActive, by rw [exec_warmReset, finish_some, commit_afterReset]⟩
  | _ => contradiction

/-- Settles O56. -/
theorem tablesChangeOnlyWhereStated : Obligations.TablesChangeOnlyWhereStated := by
  intro c s t h
  refine ⟨fun hr => ?_, fun hr => ⟨exec_partMove hr h, fun hc => exec_tick hr hc h, fun hc => exec_setupSel hc h,
    fun hc => ⟨?_, exec_logRegion hr hc h⟩, fun hl hd => exec_tables hr hl hd h, fun hu => exec_flagsStand hr hu h⟩⟩
  · obtain ⟨k, b, he⟩ := exec_reset (s := s) hr
    rw [he] at h
    cases h
    rfl
  · exact congrArg (fun b : BootSettings => { b with protect := s.boot.protect }) (exec_settledBoot hr hc h)

end Sys2Proof.Machine
end

section
/-!
SUPPORT. The boot settings of lines 2 and 3 (R149, Table 13-4).
-/

namespace Sys2Proof.Machine

variable {s t u : State}

/-! ### Flags that stand -/

theorem State.FlagsStand.part {j : Nat} (h : s.FlagsStand t) (hj : s.flags.part.getLsbD j = true) :
    t.flags.part.getLsbD j = true := by
  have hbit := congrArg (·.getLsbD j) h.2.2
  simp only [BitVec.getLsbD_and, hj, Bool.and_true] at hbit
  exact hbit

theorem State.FlagsStand.refl (s : State) : s.FlagsStand s := ⟨BitVec.and_self, BitVec.and_self, BitVec.and_self⟩

/-! ### Line 2 -/

theorem startModeOfCode_getD (b : Byte) : (StartMode.ofCode b).getD .wait =
    (if b = 1 then .armAtBoot else if b = 2 then .resume else .wait) := by
  unfold StartMode.ofCode
  split
  · rename_i h
    simp [h]
  · split
    · rfl
    · split <;> rfl

theorem startModeOfCode_isNone (b : Byte) (h : b ∉ [0, 1, 2]) : (StartMode.ofCode b).isNone = true := by
  simp only [List.mem_cons, List.not_mem_nil, or_false, not_or] at h
  obtain ⟨h0, h1, h2⟩ := h
  rw [StartMode.ofCode, if_neg h0, if_neg h1, if_neg h2]
  rfl

/-- The boot settings as line 2 gives them. -/
theorem applyBootLine_taken_boot (b : Line) : (s.applyBootLine (.taken b)).boot =
    { protect := b.getLsbD 0
      startMode := if byteAt b 1 = 1 then .armAtBoot else if byteAt b 1 = 2 then .resume else .wait
      keepStatus := b.getLsbD 16
      portOrder := if b.getLsbD 24 then .b else .a
      polynomial := if b.getLsbD 32 then .b else .a
      divider := if fieldAt b 6 16 = 0 then 1000 else (fieldAt b 6 16).toNat
      responseLimit := (byteAt b 8).toNat } := by
  have hboot : (s.applyBootLine (.taken b)).boot =
      { protect := (BootLine.parse b).protect
        startMode := (BootLine.parse b).startMode.getD .wait
        keepStatus := (BootLine.parse b).keepStatus
        portOrder := (BootLine.parse b).portOrder
        polynomial := (BootLine.parse b).polynomial
        divider := (BootLine.parse b).divider.getD Config.defaultDivider
        responseLimit := (BootLine.parse b).responseLimit } := by
    unfold State.applyBootLine
    dsimp only
    split <;> split <;> simp
  rw [hboot]
  simp only [BootLine.parse, startModeOfCode_getD, byteAt, BitVec.getLsbD_extractLsb']
  congr 1
  split <;> simp [Config.defaultDivider]

/-- A field of line 2 that cannot be used sets SETUP_FAULT (R149). -/
theorem applyBootLine_taken_fault (b : Line) (h : byteAt b 1 ∉ [0, 1, 2] ∨ fieldAt b 6 16 = 0) :
    (s.applyBootLine (.taken b)).flags.part.getLsbD 0 = true := by
  unfold State.applyBootLine
  dsimp only
  obtain hmode | hdiv := h
  · rw [if_pos (show (BootLine.parse b).startMode.isNone = true from startModeOfCode_isNone _ hmode)]
    split
    · exact setupInvalid_sets _ _ _ _
    · exact setupInvalid_sets _ _ _ _
  · rw [if_pos (show (BootLine.parse b).divider.isNone = true by simp [BootLine.parse, hdiv])]
    exact setupInvalid_sets _ _ _ _

/-! ### Line 3 -/

/-- Where line 3 puts the log region out of the space or across the Control Area (R149). -/
theorem logRegionBad_iff (base : LineAddr) :
    (!rangeFits (base.toNat, Config.logLines) || rangesOverlap (base.toNat, Config.logLines) s.controlRange) = true ↔
      2 ^ 28 < base.toNat + 32 ∨ (base.toNat < s.controlBase.toNat + 42 ∧ s.controlBase.toNat < base.toNat + 32) := by
  rw [Bool.or_eq_true, Bool.not_eq_true', rangeFits, rangesOverlap, decide_eq_false_iff_not, decide_eq_true_iff]
  simp only [State.controlRange, Config.logLines, Config.controlLines, Config.spaceLines]
  omega

theorem applyLogLine_off (l : Line) (h : byteAt l 4 = 0) : (s.applyLogLine (.taken l)).logStyle = .off := by
  simp [State.applyLogLine, parseLogStyle, LogStyle.ofCode, h]

theorem applyLogLine_unknown (l : Line) (h : byteAt l 4 ∉ [0, 1, 2]) :
    (s.applyLogLine (.taken l)).logStyle = .off ∧ (s.applyLogLine (.taken l)).flags.part.getLsbD 0 = true := by
  simp only [List.mem_cons, List.not_mem_nil, or_false, not_or] at h
  obtain ⟨h0, h1, h2⟩ := h
  have hnone : parseLogStyle l = none := by rw [parseLogStyle, LogStyle.ofCode, if_neg h0, if_neg h1, if_neg h2]
  simp only [State.applyLogLine, hnone]
  exact ⟨by simp, setupInvalid_sets _ _ _ _⟩

theorem parseLogStyle_of_on (l : Line) (h : byteAt l 4 = 1 ∨ byteAt l 4 = 2) :
    parseLogStyle l = some (if byteAt l 4 = 1 then .wrap else .keepFirst) := by
  obtain h | h := h <;> simp [parseLogStyle, LogStyle.ofCode, h]

theorem applyLogLine_on (l : Line) (h : byteAt l 4 = 1 ∨ byteAt l 4 = 2) :
    let base := lineOf (fieldAt l 0 32)
    if 2 ^ 28 < base.toNat + 32
        ∨ (base.toNat < s.controlBase.toNat + 42 ∧ s.controlBase.toNat < base.toNat + 32) then
      (s.applyLogLine (.taken l)).logStyle = .off ∧ (s.applyLogLine (.taken l)).flags.part.getLsbD 0 = true
    else (s.applyLogLine (.taken l)).logStyle = (if byteAt l 4 = 1 then .wrap else .keepFirst) ∧
      (s.applyLogLine (.taken l)).logBase = base := by
  have hstyle := parseLogStyle_of_on l h
  have hbad := logRegionBad_iff (s := s) (parseLogBase l)
  have hon : (if byteAt l 4 = 1 then LogStyle.wrap else .keepFirst) ≠ .off := by split <;> simp
  generalize (if byteAt l 4 = 1 then LogStyle.wrap else .keepFirst) = style at hstyle hon ⊢
  simp only [State.applyLogLine, hstyle]
  cases style with
  | off => contradiction
  | wrap | keepFirst =>
    split
    · rename_i hx
      rw [if_pos (hbad.2 hx)]
      exact ⟨by simp, setupInvalid_sets _ _ _ _⟩
    · rename_i hx
      rw [if_neg fun hb => hx (hbad.1 hb)]
      exact ⟨rfl, rfl⟩

/-! ### A line that was not read -/

theorem applyBootLine_failed : (s.applyBootLine .failed).boot = ⟨false, .wait, false, .a, .a, 1000, 50⟩ ∧
    (s.applyBootLine .failed).flags.part.getLsbD 0 = true :=
  ⟨by simp [State.applyBootLine, BootSettings.reset, Config.defaultDivider], setupInvalid_sets _ _ _ _⟩

theorem applyLogLine_failed : (s.applyLogLine .failed).logStyle = .off ∧
    (s.applyLogLine .failed).flags.part.getLsbD 0 = true :=
  ⟨by simp [State.applyLogLine], setupInvalid_sets _ _ _ _⟩

/-- A fault found in line 2 stands while line 3 is judged. -/
theorem applyLogLine_keeps_fault {x : SetupSlot} (h : s.flags.part.getLsbD 0 = true) :
    (s.applyLogLine x).flags.part.getLsbD 0 = true :=
  ((flagsStand_closedUnderUpdates s).applyLogLine x (.refl s)).part h

/-- Settles O7. -/
theorem bootSettingsFollowTheirLines : Obligations.BootSettingsFollowTheirLines := by
  intro s x y hstage hx hy hxe hye
  have hread : s.bootSettingsRead = true := by
    simp [State.bootSettingsRead, hstage, hx, hy, hxe, hye]
  refine ⟨s.commit s.applyBootSettings, by rw [exec_bootSettingsApplied, if_pos hread, finish_some],
    by simp [State.applyBootSettings], ?_⟩
  have hboot : (s.commit s.applyBootSettings).boot = (s.applyBootLine x).boot := by
    simp [State.applyBootSettings, hx]
  have hflags : (s.commit s.applyBootSettings).flags = ((s.applyBootLine x).applyLogLine y).flags := by
    simp [State.applyBootSettings, hx, hy]
  have hstyle : (s.commit s.applyBootSettings).logStyle = ((s.applyBootLine x).applyLogLine y).logStyle := by
    simp [State.applyBootSettings, hx, hy]
  have hbase : (s.commit s.applyBootSettings).logBase = ((s.applyBootLine x).applyLogLine y).logBase := by
    simp [State.applyBootSettings, hx, hy]
  have hcontrol : (s.applyBootLine x).controlBase = s.controlBase := by simp [State.controlBase]
  rw [hboot, hflags, hstyle, hbase]
  refine ⟨fun b hb => ?_, fun hf => ?_, fun l hl => ?_, fun hf => ?_⟩
  · subst hb
    rw [applyBootLine_taken_boot]
    exact ⟨rfl, rfl, rfl, rfl, rfl, rfl, rfl, fun h => applyLogLine_keeps_fault (applyBootLine_taken_fault b h)⟩
  · subst hf
    exact ⟨applyBootLine_failed.1, applyLogLine_keeps_fault applyBootLine_failed.2⟩
  · subst hl
    exact ⟨applyLogLine_off l, applyLogLine_unknown l, fun h => hcontrol ▸ applyLogLine_on l h⟩
  · subst hf
    exact applyLogLine_failed

end Sys2Proof.Machine
end

section
/-!
SUPPORT. The status copy as BOOT forms it, and the incidents kept until then (R109, R162, R163).
-/

namespace Sys2Proof.Machine

variable {s t u : State}

/-! ### Incidents taken in order -/

/-- The incidents of a list the log takes in the style in force, `held` records being held before. -/
def takenFrom (style : LogStyle) (held : Nat) (kept : List Incident) : List Incident :=
  match style with
  | .off => []
  | .wrap => kept
  | .keepFirst => kept.take (32 - held)

/-- The log entries that number incidents from `next` on. -/
def numberedFrom (next : BitVec 16) (taken : List Incident) : List LogEntry :=
  taken.mapIdx fun k i => .record (next + BitVec.ofNat 16 k) i

theorem numberedFrom_cons (next : BitVec 16) (i : Incident) (taken : List Incident) :
    numberedFrom next (i :: taken) = .record next i :: numberedFrom (next + 1) taken := by
  have hnumber (k : Nat) : next + BitVec.ofNat 16 (k + 1) = next + 1 + BitVec.ofNat 16 k := by
    rw [BitVec.ofNat_add, ← BitVec.add_assoc, BitVec.add_assoc next, BitVec.add_comm (BitVec.ofNat 16 k),
      ← BitVec.add_assoc]
    rfl
  simp only [numberedFrom, List.mapIdx_cons, BitVec.ofNat_eq_ofNat, BitVec.add_zero]
  exact congrArg _ (congrArg (List.mapIdx · taken) (funext fun k => by rw [hnumber]; rfl))

/-- What taking the incidents of a list leaves, the queue having a place for each. -/
structure State.Took (s t : State) (kept taken : List Incident) : Prop where
  queue : t.logQueue = s.logQueue ++ numberedFrom s.logNext taken
  next  : t.logNext = s.logNext + BitVec.ofNat 16 taken.length
  held  : t.logHeld = min 32 (s.logHeld + taken.length)
  flags : t.flags = { s.flags with part :=
    if s.logStyle = .keepFirst ∧ taken.length < kept.length then s.flags.part ||| 0x200 else s.flags.part }

theorem State.Took.none (hheld : s.logHeld ≤ 32) : s.Took s [] [] where
  queue := by simp [numberedFrom]
  next := by simp
  held := by simp [hheld]
  flags := by simp

/-- An incident recorded goes before those taken after it. -/
theorem State.Took.cons {i : Incident} {kept taken : List Incident} (h32 : s.logHeld ≤ 32)
    (h : State.Took { s with
      logQueue := s.logQueue ++ [.record s.logNext i]
      logNext := s.logNext + 1
      logHeld := if s.logHeld < 32 then s.logHeld + 1 else s.logHeld } t kept taken) :
    s.Took t (i :: kept) (i :: taken) where
  queue := by
    rw [h.queue, numberedFrom_cons]
    simp
  next := by
    rw [h.next, List.length_cons, BitVec.ofNat_add, BitVec.add_assoc, BitVec.add_comm (1 : BitVec 16)]
    rfl
  held := by
    rw [h.held]
    dsimp only
    rw [List.length_cons]
    split <;> omega
  flags := by
    rw [h.flags]
    simp only [List.length_cons, Nat.add_lt_add_iff_right]

/-- Once the log is full in KEEP_FIRST, each incident is lost and sets LOG_FULL. -/
theorem State.Took.full {i : Incident} {kept : List Incident}
    (hstyle : s.logStyle = .keepFirst) (h : (s.setPartFlag .logFull).Took t kept []) : s.Took t (i :: kept) [] where
  queue := h.queue
  next := h.next
  held := h.held
  flags := by
    rw [h.flags]
    simp only [setPartFlag_logFull_eq, hstyle, List.length_nil, List.length_cons, Nat.zero_lt_succ, true_and, and_true,
      if_true]
    split
    · rw [BitVec.or_assoc, BitVec.or_self]
    · rfl

/-- The incidents of a list are taken in turn (R162, R163). -/
theorem foldl_takeIncident_took (kept : List Incident) (hheld : s.logHeld ≤ 32)
    (hroom : s.logQueue.length + kept.length ≤ 4) :
    s.Took (kept.foldl State.takeIncident s) kept (takenFrom s.logStyle s.logHeld kept) := by
  induction kept generalizing s with
  | nil =>
    have hnil : takenFrom s.logStyle s.logHeld [] = [] := by cases s.logStyle <;> simp [takenFrom]
    rw [hnil]
    exact .none hheld
  | cons i kept ih =>
    rw [List.length_cons] at hroom
    have hplace : ¬4 ≤ s.logQueue.length := by omega
    rw [List.foldl_cons]
    have recorded (h : s.logStyle = .wrap ∨ s.logStyle = .keepFirst ∧ s.logHeld < 32) :
        s.Took (kept.foldl State.takeIncident (s.takeIncident i)) (i :: kept)
          (i :: takenFrom s.logStyle (if s.logHeld < 32 then s.logHeld + 1 else s.logHeld) kept) := by
      rw [takeIncident_of_recording i h, if_neg hplace]
      refine .cons hheld (ih ?_ ?_)
      · dsimp only
        split <;> omega
      · simp only [List.length_append, List.length_cons, List.length_nil]
        omega
    cases hstyle : s.logStyle with
    | off =>
      have h := ih hheld (by omega)
      rw [takeIncident_of_off i hstyle]
      simp only [hstyle, takenFrom] at h ⊢
      exact { h with flags := by rw [h.flags]; simp [hstyle] }
    | wrap => simpa only [hstyle, takenFrom] using recorded (.inl hstyle)
    | keepFirst =>
      by_cases hfull : 32 ≤ s.logHeld
      · rw [takeIncident_of_keepFirst_full i hstyle hfull]
        have h := ih (s := s.setPartFlag .logFull) (by simpa using hheld) (by simp; omega)
        have hnone : 32 - s.logHeld = 0 := by omega
        simp only [setPartFlag_keeps, hstyle, takenFrom, hnone, List.take_zero] at h ⊢
        exact .full hstyle h
      · have h := recorded (.inr ⟨hstyle, by omega⟩)
        have hleft : 32 - s.logHeld = 32 - (s.logHeld + 1) + 1 := by omega
        rw [if_pos (by omega)] at h
        simpa only [hstyle, takenFrom, hleft, List.take_succ_cons] using h

/-! ### The starting copy (R109) -/

theorem keptLine_eq_some_iff (l : Line) :
    s.keptLine = some l ↔ s.setup[0] = .taken l ∧ s.resetKind = .warm ∧ s.boot.keepStatus = true := by
  unfold State.keptLine
  split
  · rename_i x hx
    rw [hx, SetupSlot.taken.injEq, Option.ite_none_right_eq_some, Option.some.injEq]
    exact and_comm
  · rename_i hx
    simp only [reduceCtorEq, false_iff]
    exact fun h => hx l h.1

/-- Where memory's line 0 is not kept: it was not read, or the reset or the setting says so. -/
theorem keptLine_eq_none (hended : s.setup[0].ended) (h : s.keptLine = none) :
    s.setup[0] = .failed ∨ s.resetKind = .powerOn ∨ s.boot.keepStatus = false := by
  cases hx : s.setup[0] with
  | taken l =>
    refine .inr ?_
    cases hk : s.resetKind with
    | powerOn => exact .inl rfl
    | warm =>
      refine .inr ?_
      have hnot := mt (keptLine_eq_some_iff (s := s) l).2 (by simp [h])
      simpa [hx, hk] using hnot
  | failed => exact .inl rfl
  | idle | waiting | outstanding =>
    rw [hx] at hended
    contradiction

/-- The state BOOT forms before it takes the incidents kept. -/
def State.afterStart (s : State) : State :=
  { s.startStatus with
    bootStage := .formed
    statusEntry := .wbWait none
    statusWritten := false
    command := .reset
    commandEntry := .wbWait none
    commandWritten := false
    logQueue := [] }

theorem formPinned_eq : s.formPinned = (s.logQueue.map LogEntry.incident).foldl State.takeIncident s.afterStart := rfl

/-- Settles O8. -/
theorem statusCopyFormedInBoot : Obligations.StatusCopyFormedInBoot := by
  intro s x kept hstage hx hended hkept hlen
  subst hx
  have hread : s.statusLineRead = true := by simp [State.statusLineRead, hstage, hended]
  refine ⟨s.commit s.formPinned, by rw [exec_statusCopyFormed, if_pos hread, finish_some], ?_⟩
  have hincidents : s.logQueue.map LogEntry.incident = kept := by
    rw [hkept, List.map_map]
    exact List.map_id kept
  refine ⟨by simp [State.formPinned], by simp [State.formPinned, State.commit, PinnedEntry.follow],
    by simp [State.formPinned, State.commit, PinnedEntry.follow],
    by simp [State.formPinned, CommandLine.reset], fun flags next held hkeep hfresh => ?_⟩
  have hstart : s.startStatus.flags = flags ∧ s.startStatus.logNext = next ∧ s.startStatus.logHeld = held ∧
      held ≤ 32 := by
    unfold State.startStatus
    cases hline : s.keptLine with
    | some l =>
      obtain ⟨hl, hwarm, hk⟩ := (keptLine_eq_some_iff l).1 hline
      obtain ⟨rfl, rfl, rfl⟩ := hkeep l hl hwarm hk
      exact ⟨rfl, rfl, rfl, Nat.min_le_right _ _⟩
    | none =>
      obtain ⟨rfl, rfl, rfl⟩ := hfresh (keptLine_eq_none hended hline)
      exact ⟨rfl, rfl, rfl, Nat.zero_le _⟩
  obtain ⟨rfl, rfl, rfl, hheld⟩ := hstart
  have htook := foldl_takeIncident_took (s := s.afterStart) kept hheld (by simpa [State.afterStart] using hlen)
  obtain ⟨hqueue, hnext, hlogHeld, hflags⟩ := htook
  have hformed : s.formPinned = kept.foldl State.takeIncident s.afterStart := by
    rw [formPinned_eq, hincidents]
  intro taken
  have htaken : takenFrom s.afterStart.logStyle s.afterStart.logHeld kept = taken := by
    simp only [State.afterStart, startStatus_keeps]
    rfl
  rw [htaken] at hqueue hnext hlogHeld hflags
  simp only [commit_keeps, hformed]
  refine ⟨hqueue, hnext, hlogHeld, ?_⟩
  rw [hflags]
  simp [State.afterStart]

end Sys2Proof.Machine
end

section
/-!
SUPPORT. The ends of BOOT and of DRAINING (R171, R173, R174).
-/

namespace Sys2Proof.Machine

variable {s t u : State}

/-! ### A held head -/

theorem examineHead_of_none (h : s.head = none) : s.examineHead = s := by
  simp only [State.examineHead, h]

theorem examineHead_of_some {q : UpRequest} (h : s.head = some q) (he : s.examines = true) :
    s.examineHead = s.examine q := by
  simp only [State.examineHead, h, he, if_true]

/-- The Control Area lies where SETUP_SEL puts it (R148). -/
theorem controlIndex_congr (h : t.setupSel = s.setupSel) (l : LineAddr) : t.controlIndex l = s.controlIndex l := by
  have hbase : t.controlBase = s.controlBase := by rw [State.controlBase, h, State.controlBase]
  simp only [State.controlIndex, hbase]

theorem inLog_congr (hstyle : t.logStyle = s.logStyle) (hbase : t.logBase = s.logBase) (l : LineAddr) :
    t.inLog l = s.inLog l := by
  simp only [State.inLog, hstyle, hbase]

/-- In PASS every line outside the Control Area and the log region is a pass-through line (Table 1-1). -/
theorem classify_of_pass {l : LineAddr} (hp : s.partState = .pass) (hc : s.controlIndex l = none)
    (hlog : s.inLog l = false) : s.classify l = .pass :=
  classify_pass hc (by simp [hlog]) (fun h => by simp [inShadow_iff, hp] at h) (fun h => by simp [hp] at h)

theorem servePass_of_room {q : UpRequest} (h : s.passQueue.length < 8) : s.servePass q = s.acceptPass q := if_pos h

/-! ### BOOT -/

theorem armsAtBoot_iff : s.armsAtBoot = true ↔
    s.boot.startMode = .armAtBoot ∨ (s.boot.startMode = .resume ∧ s.wasActive = true) := by
  unfold State.armsAtBoot
  split <;> rename_i hmode <;> simp [hmode]

theorem bootDone_of (hboot : s.partState = .boot) (hformed : s.bootStage = .formed) (hs : s.statusWritten)
    (hc : s.commandWritten) : s.bootDone = true := by
  simp [State.bootDone, hboot, hformed, hs, hc]

theorem exec_bootEnd_arms (hdone : s.bootDone = true) (h : s.armsAtBoot = true) :
    exec .bootEnd s = .next (s.commit s.enterLoading) := by
  rw [exec_bootEnd, if_pos hdone, if_pos h, finish_some]

theorem exec_bootEnd_waits (hdone : s.bootDone = true) (h : ¬s.armsAtBoot = true) :
    exec .bootEnd s = .next (s.commit (s.enter .pass).examineHead) := by
  rw [exec_bootEnd, if_pos hdone, if_neg h, finish_some]

theorem enterLoading_setup {k : Fin 42} (h : 4 ≤ k.val) : s.enterLoading.setup[k] = .waiting := by
  simp [State.enterLoading, h]

/-- A READ that falls in the pass-through class in PASS is queued (R16). -/
theorem examine_read_pass {q : UpRequest} (hp : s.partState = .pass) (hread : q.body = .read)
    (htag : s.outstanding.contains q.tag = false) (hc : s.controlIndex (lineOf q.addr) = none)
    (hlog : s.inLog (lineOf q.addr) = false) (hroom : s.passQueue.length < 8) :
    (s.examine q).partState = .pass ∧ (s.examine q).head = none ∧
      (s.examine q).passQueue = s.passQueue ++ [⟨q.tag, lineOf q.addr, .read⟩] ∧
      (s.examine q).outstanding = s.outstanding ++ [q.tag] := by
  have hnew : ¬q.tag ∈ s.outstanding := by simpa using htag
  rw [examine_of_class s q htag, classify_of_pass hp hc hlog]
  dsimp only
  rw [servePass_of_room hroom]
  simp [State.acceptPass, State.leave, State.addOutstanding, hread, hnew, hp]

/-- Settles O9. -/
theorem bootEndsByStartMode : Obligations.BootEndsByStartMode := by
  intro s hboot hformed hstatus hcommand arms
  have hdone := bootDone_of hboot hformed hstatus hcommand
  have harms : s.armsAtBoot = true ↔ arms := armsAtBoot_iff
  refine ⟨fun h => ?_, fun h hhead => ?_, fun h q hhead hread htag hc hlog hroom => ?_⟩
  · refine ⟨_, exec_bootEnd_arms hdone (harms.2 h), by simp [State.enterLoading], by simp [State.enterLoading],
      by simp, by simp, fun k hk => ?_⟩
    exact enterLoading_setup hk
  · rw [exec_bootEnd_waits hdone (mt harms.1 h), examineHead_of_none (by simpa using hhead)]
    exact ⟨_, rfl, by simp, by simp, by simp⟩
  · rw [exec_bootEnd_waits hdone (mt harms.1 h),
      examineHead_of_some (q := q) (by simpa using hhead) (by simp [State.examines])]
    have hread := examine_read_pass (s := s.enter .pass) (q := q) (by simp) hread (by simpa using htag)
      ((controlIndex_congr (by simp) _).trans hc) ((inLog_congr (by simp) (by simp) _).trans hlog)
      (by simpa using hroom)
    obtain ⟨hpass, hh, hq, ho⟩ := hread
    exact ⟨_, rfl, hpass, hh, by simpa using hq, by simpa using ho⟩

/-! ### DRAINING -/

theorem inUse_eq_zero (h : ∀ i : Fin 12, s.entries[i] = .free) : s.inUse = 0 := by
  rw [inUse_eq_zero_iff]
  intro i
  rw [h i]
  rfl

/-- Settles O12. -/
theorem drainingEndEmptiesTheTables : Obligations.DrainingEndEmptiesTheTables := by
  intro s hs hfree hengine hhead
  have hdrained : s.drained = true := by simp [State.drained, hs, inUse_eq_zero hfree, hengine]
  rw [exec_drainingEnd, if_pos hdrained, finish_some, examineHead_of_none (by simpa using hhead)]
  rfl

end Sys2Proof.Machine
end

section
/-!
SUPPORT. Sweep requests handed to the queue (R132, R133).
-/

namespace Sys2Proof.Machine

variable {s t u : State}

theorem inService_congr (h : t.windows = s.windows) (w : WindowNo) : t.inService w = s.inService w := by
  rw [State.inService, record_congr h, State.inService]

/-- With at most one request for each of the 16 windows, one for a further window finds a place (R133). -/
theorem dropsSweep_eq_any (hn : (s.sweepQueue.map (·.window)).Nodup) (q : SweepRequest) :
    s.dropsSweep q = s.sweepQueue.any (fun p => p.window == q.window) := by
  cases hany : s.sweepQueue.any (fun p => p.window == q.window) with
  | true => simp [State.dropsSweep, hany]
  | false =>
    have hnew : q.window ∉ s.sweepQueue.map (·.window) := by
      intro hmem
      obtain ⟨p, hp, hw⟩ := List.mem_map.1 hmem
      simpa [hw] using List.any_eq_false.1 hany p hp
    have hlen := (List.nodup_cons.2 ⟨hnew, hn⟩).length_le_card
    simp only [List.length_cons, List.length_map, Fintype.card_fin] at hlen
    simp only [State.dropsSweep, hany, Bool.false_or, decide_eq_false_iff_not, Config.sweepQueuePlaces]
    omega

/-- Requests for different windows are queued but for the windows that have one queued (R133). -/
theorem handSweeps_sweepQueue (qs : List SweepRequest) (hn : (s.sweepQueue.map (·.window)).Nodup)
    (hq : (qs.map (·.window)).Nodup) : (s.handSweeps qs).sweepQueue =
      s.sweepQueue ++ qs.filter fun q => !s.sweepQueue.any (fun p => p.window == q.window) := by
  induction qs generalizing s with
  | nil => simp [State.handSweeps]
  | cons q qs ih =>
    obtain ⟨hfresh, hq⟩ := List.nodup_cons.1 hq
    have hstep : s.handSweeps (q :: qs) = (s.handSweep q).handSweeps qs := rfl
    rw [hstep]
    obtain ⟨hdrop, he⟩ | ⟨hdrop, he⟩ := handSweep_cases s q
    · have hany := (dropsSweep_eq_any hn q).symm.trans hdrop
      have hsame : (s.handSweep q).sweepQueue = s.sweepQueue := by simp [he]
      rw [ih (by rwa [hsame]) hq, hsame, List.filter_cons_of_neg (by simp [hany])]
    · have hany := (dropsSweep_eq_any hn q).symm.trans hdrop
      have hnew : (s.handSweep q).sweepQueue = s.sweepQueue ++ [q] := by rw [he]
      have hfilter : qs.filter (fun r => !(s.sweepQueue ++ [q]).any (fun p => p.window == r.window)) =
          qs.filter fun r => !s.sweepQueue.any (fun p => p.window == r.window) := by
        refine List.filter_congr fun r hr => ?_
        have hne : q.window ≠ r.window := fun h => hfresh (List.mem_map.2 ⟨r, hr, h.symm⟩)
        simp [hne]
      have hnodup : ((s.sweepQueue ++ [q]).map (·.window)).Nodup := by
        rw [List.map_append, List.nodup_append_comm]
        refine List.nodup_cons.2 ⟨fun hmem => ?_, hn⟩
        obtain ⟨p, hp, hw⟩ := List.mem_map.1 hmem
        simpa [hw] using List.any_eq_false.1 hany p hp
      rw [ih (by rwa [hnew]) hq, hnew, hfilter, List.filter_cons_of_pos (by simp [hany]), List.append_assoc]
      rfl

theorem requestsFor_windows_nodup (source : SweepSource) (action : WindowRecord → Option SweepAction) :
    ((s.requestsFor source action).map (·.window)).Nodup := by
  rw [State.requestsFor, List.map_filterMap]
  refine (List.nodup_finRange 16).filterMap fun v w x hv hw => ?_
  have window_eq {v : WindowNo} (hv : x ∈ Option.map (·.window) (match s.inService v with
      | some r => (action r).map fun a => (⟨v, a, source⟩ : SweepRequest)
      | none => none)) : x = v := by
    obtain ⟨q, hq, rfl⟩ := Option.map_eq_some_iff.1 hv
    split at hq
    · obtain ⟨a, _, rfl⟩ := Option.map_eq_some_iff.1 hq
      rfl
    · cases hq
  exact (window_eq hv).symm.trans (window_eq hw)

/-- What a source's requests add to the queue. -/
theorem handSweeps_requestsFor (hn : (s.sweepQueue.map (·.window)).Nodup) (source : SweepSource)
    (action : WindowRecord → Option SweepAction) :
    (s.handSweeps (s.requestsFor source action)).sweepQueue = s.sweepQueue ++ (List.finRange 16).filterMap fun w =>
      if s.sweepQueue.any (fun p => p.window == w) then none
      else ((s.inService w).bind action).map fun a => ⟨w, a, source⟩ := by
  rw [handSweeps_sweepQueue _ hn (requestsFor_windows_nodup source action)]
  rw [State.requestsFor, List.filter_filterMap]
  refine congrArg _ (List.filterMap_congr fun w _ => ?_)
  cases s.inService w with
  | none => simp
  | some r =>
    dsimp only [Option.bind_some]
    cases action r with
    | none => simp
    | some a =>
      cases h : s.sweepQueue.any (fun p => p.window == w) with
      | true => rw [if_pos rfl, Option.map_some, Option.filter_some_neg (by simp [h])]
      | false => rw [if_neg Bool.false_ne_true, Option.map_some, Option.filter_some_pos (by simp [h])]

end Sys2Proof.Machine
end

section
/-!
SUPPORT. LOADING: the live settings, the bindings and the chord setting as judged, and the end of LOADING
(R129, R130, R150, R152, R172).
-/

namespace Sys2Proof.Machine

variable {s t u : State}

/-! ### A setting fallen to its default -/

/-- A setting has fallen to its default in this arming: the mark of the arming's result and SETUP_FAULT are set
(R152). -/
def State.Fell (s : State) : Prop := s.fellToDefault = true ∧ s.flags.part.getLsbD 0 = true

theorem setupInvalid_fellToDefault (w : Option WindowNo) (a : ByteAddr) (d : BitVec 32) :
    (s.setupInvalid w a d).fellToDefault = (s.fellToDefault || s.partState == .loading) := by
  simp [State.setupInvalid]

theorem State.Fell.setupInvalid (h : s.Fell) (w : Option WindowNo) (a : ByteAddr) (d : BitVec 32) :
    (s.setupInvalid w a d).Fell :=
  ⟨by rw [setupInvalid_fellToDefault, h.1, Bool.true_or], setupInvalid_sets s w a d⟩

theorem fell_of_setupInvalid (hs : s.partState = .loading) (w : Option WindowNo) (a : ByteAddr) (d : BitVec 32) :
    (s.setupInvalid w a d).Fell :=
  ⟨by simp [setupInvalid_fellToDefault, hs], setupInvalid_sets s w a d⟩

theorem State.Fell.judgeWindow (h : s.Fell) (w : WindowNo) : (s.judgeWindow w).Fell := by
  unfold State.judgeWindow
  split
  · split
    · exact h
    · split
      · exact h.setupInvalid _ _ _
      · split
        · exact h.setupInvalid _ _ _
        · exact h
  · exact h.setupInvalid _ _ _

theorem State.Fell.judgeBinding (h : s.Fell) (n : InputNo) : (s.judgeBinding n).Fell := by
  have off (code : BitVec 32) : (s.disableBinding n code).Fell :=
    State.Fell.setupInvalid (s := { s with bindings := s.bindings.set n none }) h _ _ _
  unfold State.judgeBinding
  split
  · dsimp only
    split
    · exact h
    · split
      · exact off _
      · exact h
  · exact off _

theorem State.Fell.judgeBindings (h : s.Fell) : s.judgeBindings.Fell :=
  List.foldlRecOn _ _ h fun _ hb n _ => hb.judgeBinding n

theorem State.Fell.judgeChord (h : s.Fell) : s.judgeChord.Fell := by
  have off (c : ChordSetting) : ({ s with chord := c }.setupInvalid none (byteAddr (s.controlLine 9)) 0x07).Fell ∧
      ({ s with chord := c }.setupInvalid none (byteAddr (s.controlLine 9)) 0x01).Fell :=
    ⟨State.Fell.setupInvalid (s := { s with chord := c }) h _ _ _,
      State.Fell.setupInvalid (s := { s with chord := c }) h _ _ _⟩
  unfold State.judgeChord
  split
  · dsimp only
    split
    · exact (off _).1
    · exact h
  · exact (off _).2

/-! ### The live settings (R150) -/

theorem judgeMasks_taken {l : Line} (h : s.setup[4] = .taken l) : s.judgeMasks.live.masks = l := by
  simp only [State.judgeMasks, h]

theorem judgeMasks_failed (h : s.setup[4] = .failed) : s.judgeMasks.live.masks = 0 := by
  simp [State.judgeMasks, h]

theorem judgeIntervals_masks : s.judgeIntervals.live.masks = s.live.masks := by
  unfold State.judgeIntervals
  dsimp only
  split <;> split <;> simp

theorem judgeIntervals_low {l : Line} (h : s.setup[5] = .taken l) : s.judgeIntervals.live.intervalsLow = l := by
  unfold State.judgeIntervals
  simp only [h]
  split <;> simp

theorem judgeIntervals_high {l : Line} (h : s.setup[6] = .taken l) : s.judgeIntervals.live.intervalsHigh = l := by
  unfold State.judgeIntervals
  simp only [h]
  split <;> simp

theorem judgeAll_live : s.judgeAll.live = s.judgeMasks.judgeIntervals.live := by
  simp [State.judgeAll]

/-! ### The Window Table (R46) -/

theorem judgeWindow_marks (w v : WindowNo) :
    (s.judgeWindow w).windows[v].armed = s.windows[v].armed ∧
      (s.judgeWindow w).windows[v].sequence = s.windows[v].sequence := by
  unfold State.judgeWindow
  split
  · split
    · exact ⟨rfl, rfl⟩
    · split
      · simp [State.disableWindow]
      · split
        · simp [State.disableWindow]
        · by_cases hwv : w = v
          · subst hwv
            simp [State.setWindow]
          · simp [State.setWindow, Fin.val_inj, hwv]
  · simp [State.disableWindow]

/-- A table just built has every crossing-armed flag set and every sequence 0. -/
theorem judgeWindows_marks (v : WindowNo) :
    s.judgeWindows.windows[v].armed = true ∧ s.judgeWindows.windows[v].sequence = 0 := by
  refine List.foldlRecOn (motive := fun u : State => u.windows[v].armed = true ∧ u.windows[v].sequence = 0) _ _
    (by simp) fun u hu w _ => ?_
  rw [(judgeWindow_marks w v).1, (judgeWindow_marks w v).2]
  exact hu

theorem judgeAll_windows : s.judgeAll.windows = s.judgeMasks.judgeIntervals.judgeWindows.windows := by
  simp [State.judgeAll]

/-! ### The bindings (R129, R130) -/

theorem windowOf_congr (h : t.windows = s.windows) (l : LineAddr) : t.windowOf l = s.windowOf l := by
  have hholds : t.windowHolds l = s.windowHolds l := by
    funext w
    simp only [State.windowHolds, inService_congr h]
  rw [State.windowOf, hholds, State.windowOf]

theorem bindingTests_congr (h : t.windows = s.windows) (n : InputNo) (l : Line) :
    t.bindingTests n l = s.bindingTests n l := by
  simp only [State.bindingTests, windowOf_congr h, record_congr h]

theorem bindingOf_congr (h : t.windows = s.windows) (b : BindingFields) : t.bindingOf b = s.bindingOf b := by
  unfold State.bindingOf
  simp only [windowOf_congr h, record_congr h]

/-- The binding the setup line of input `n` puts in force. -/
def State.boundBy (s : State) (n : InputNo) : Option Binding :=
  match s.setup[7 + n.val / 2]'(by omega) with
  | .taken l =>
    if (BindingFields.parse l (8 * (n.val % 2))).enable then
      (s.bindingOf (BindingFields.parse l (8 * (n.val % 2)))).toOption
    else none
  | _ => none

theorem boundBy_congr (hw : t.windows = s.windows) (hs : t.setup = s.setup) (n : InputNo) :
    t.boundBy n = s.boundBy n := by
  simp only [State.boundBy, hs, bindingOf_congr hw]

section

variable {n : InputNo} {l : Line}

theorem boundBy_off (hl : s.setup[7 + n.val / 2]'(by omega) = .taken l)
    (he : (BindingFields.parse l (8 * (n.val % 2))).enable = false) : s.boundBy n = none := by
  simp only [State.boundBy, hl, he]
  rfl

theorem boundBy_on (hl : s.setup[7 + n.val / 2]'(by omega) = .taken l)
    (he : (BindingFields.parse l (8 * (n.val % 2))).enable = true) :
    s.boundBy n = (s.bindingOf (BindingFields.parse l (8 * (n.val % 2)))).toOption := by
  simp only [State.boundBy, hl, he]
  rfl

theorem boundBy_unread (hl : ∀ l, s.setup[7 + n.val / 2]'(by omega) ≠ .taken l) : s.boundBy n = none := by
  unfold State.boundBy
  split
  · exact absurd ‹_› (hl _)
  · rfl

theorem judgeBinding_off (hl : s.setup[7 + n.val / 2]'(by omega) = .taken l)
    (he : (BindingFields.parse l (8 * (n.val % 2))).enable = false) :
    s.judgeBinding n = { s with bindings := s.bindings.set n none } := by
  simp only [State.judgeBinding, hl, he]
  rfl

theorem judgeBinding_error {code : BitVec 32} (hl : s.setup[7 + n.val / 2]'(by omega) = .taken l)
    (he : (BindingFields.parse l (8 * (n.val % 2))).enable = true)
    (hj : s.bindingOf (BindingFields.parse l (8 * (n.val % 2))) = .error code) :
    s.judgeBinding n = s.disableBinding n code := by
  simp only [State.judgeBinding, hl, he, hj]
  rfl

theorem judgeBinding_ok {b : Binding} (hl : s.setup[7 + n.val / 2]'(by omega) = .taken l)
    (he : (BindingFields.parse l (8 * (n.val % 2))).enable = true)
    (hj : s.bindingOf (BindingFields.parse l (8 * (n.val % 2))) = .ok b) :
    s.judgeBinding n = { s with bindings := s.bindings.set n (some b) } := by
  simp only [State.judgeBinding, hl, he, hj]
  rfl

theorem judgeBinding_unread (hl : ∀ l, s.setup[7 + n.val / 2]'(by omega) ≠ .taken l) :
    s.judgeBinding n = s.disableBinding n 0x01 := by
  unfold State.judgeBinding
  split
  · exact absurd ‹_› (hl _)
  · rfl

end

theorem disableBinding_bindings (n : InputNo) (code : BitVec 32) :
    (s.disableBinding n code).bindings = s.bindings.set n none := by
  simp [State.disableBinding]

theorem disableBinding_fell (hs : s.partState = .loading) (n : InputNo) (code : BitVec 32) :
    (s.disableBinding n code).Fell :=
  fell_of_setupInvalid (s := { s with bindings := s.bindings.set n none }) hs _ _ _

theorem judgeBinding_bindings (n : InputNo) : (s.judgeBinding n).bindings = s.bindings.set n (s.boundBy n) := by
  by_cases hread : ∃ l, s.setup[7 + n.val / 2]'(by omega) = .taken l
  · obtain ⟨l, hl⟩ := hread
    cases he : (BindingFields.parse l (8 * (n.val % 2))).enable with
    | false => rw [judgeBinding_off hl he, boundBy_off hl he]
    | true =>
      cases hj : s.bindingOf (BindingFields.parse l (8 * (n.val % 2))) with
      | error code =>
        rw [judgeBinding_error hl he hj, boundBy_on hl he, hj, disableBinding_bindings]
        rfl
      | ok b =>
        rw [judgeBinding_ok hl he hj, boundBy_on hl he, hj]
        rfl
  · rw [judgeBinding_unread (not_exists.1 hread), boundBy_unread (not_exists.1 hread), disableBinding_bindings]

/-- A binding not read, or enabled but not in force, is a setting fallen to its default. -/
theorem judgeBinding_fell (hs : s.partState = .loading) (n : InputNo) (hnone : s.boundBy n = none)
    (hon : ∀ l, s.setup[7 + n.val / 2]'(by omega) = .taken l →
      (BindingFields.parse l (8 * (n.val % 2))).enable = true) : (s.judgeBinding n).Fell := by
  by_cases hread : ∃ l, s.setup[7 + n.val / 2]'(by omega) = .taken l
  · obtain ⟨l, hl⟩ := hread
    cases hj : s.bindingOf (BindingFields.parse l (8 * (n.val % 2))) with
    | error code =>
      rw [judgeBinding_error hl (hon l hl) hj]
      exact disableBinding_fell hs n code
    | ok b =>
      rw [boundBy_on hl (hon l hl), hj] at hnone
      cases hnone
  · rw [judgeBinding_unread (not_exists.1 hread)]
    exact disableBinding_fell hs n _

theorem foldl_judgeBinding_bindings (ns : List InputNo) (n : InputNo) :
    (ns.foldl State.judgeBinding s).bindings[n] = if n ∈ ns then s.boundBy n else s.bindings[n] := by
  induction ns generalizing s with
  | nil => simp
  | cons m ns ih =>
    rw [List.foldl_cons, ih, boundBy_congr (s := s) (by simp) (by simp), judgeBinding_bindings]
    by_cases hn : n ∈ ns
    · simp [hn]
    · by_cases hmn : m = n
      · subst hmn
        simp [hn]
      · simp [hn, Fin.val_inj, hmn, Ne.symm hmn]

/-- What the judging of all bindings leaves for each input. -/
theorem judgeBindings_bindings (n : InputNo) : s.judgeBindings.bindings[n] = s.boundBy n := by
  rw [State.judgeBindings, foldl_judgeBinding_bindings, if_pos (List.mem_finRange n)]

theorem judgeBindings_fell (hs : s.partState = .loading) (n : InputNo) (hnone : s.boundBy n = none)
    (hon : ∀ l, s.setup[7 + n.val / 2]'(by omega) = .taken l →
      (BindingFields.parse l (8 * (n.val % 2))).enable = true) : s.judgeBindings.Fell := by
  obtain ⟨before, after, hsplit⟩ := List.append_of_mem (List.mem_finRange n)
  rw [State.judgeBindings, hsplit, List.foldl_append, List.foldl_cons]
  refine List.foldlRecOn (motive := State.Fell) _ _ ?_ fun _ hb m _ => hb.judgeBinding m
  refine judgeBinding_fell (by simpa using hs) n ((boundBy_congr (by simp) (by simp) n).trans hnone) ?_
  simpa using hon

/-! ### Ordered tests -/

theorem OrderedTests.pass_or_first (ts : OrderedTests) : ts.pass ∨ ∃ code, ts.first code := by
  induction ts with
  | nil => exact .inl (pass_nil.2 trivial)
  | cons x ts ih =>
    obtain ⟨c, p⟩ := x
    by_cases hp : p
    · exact .inr ⟨c, (first_cons c p ts c).2 (.inl ⟨hp, rfl⟩)⟩
    · exact ih.imp (fun h => (pass_cons c p ts).2 ⟨hp, h⟩)
        fun ⟨code, h⟩ => ⟨code, (first_cons c p ts code).2 (.inr ⟨hp, h⟩)⟩

theorem OrderedTests.not_pass_of_first {ts : OrderedTests} {code : BitVec 32} (h : ts.first code) : ¬ts.pass := by
  obtain ⟨before, after, p, rfl, hp, -⟩ := h
  exact fun hpass => hpass (code, p) (by simp) hp

/-- A binding is in force exactly where it is enabled, its tests pass, and it is what its bytes say (R129, R130). -/
theorem boundBy_eq_some_iff {n : InputNo} {l : Line} (hl : s.setup[7 + n.val / 2]'(by omega) = .taken l) (b : Binding) :
    s.boundBy n = some b ↔ l.getLsbD (64 * (n.val % 2)) = true ∧ (s.bindingTests n l).pass ∧ b.describedBy n l ∧
      s.windowOf b.target = some b.window := by
  obtain ⟨hfirst, hpass⟩ := bindingOf_tests s n l
  have henable : (BindingFields.parse l (8 * (n.val % 2))).enable = l.getLsbD (64 * (n.val % 2)) := by
    rw [parse_binding]
  cases he : l.getLsbD (64 * (n.val % 2)) with
  | false => simp [boundBy_off hl (henable.trans he)]
  | true =>
    rw [boundBy_on hl (henable.trans he)]
    obtain hp | ⟨code, hf⟩ := (s.bindingTests n l).pass_or_first
    · have hok := hpass hp b
      cases hj : s.bindingOf (BindingFields.parse l (8 * (n.val % 2))) with
      | error code => simpa [hj, hp, Except.toOption] using hok
      | ok c => simpa [hj, hp, Except.toOption] using hok
    · rw [hfirst code hf]
      simp [OrderedTests.not_pass_of_first hf, Except.toOption]

/-! ### The chord setting -/

theorem parseChord_eq (l : Line) :
    parseChord l = ⟨l.extractLsb' 0 4, (fieldAt l 2 16).toNat, (byteAt l 4).toNat⟩ := by
  simp only [parseChord, byteAt, extract_extract l _ 8 0 4 (by omega)]

theorem judgeChord_failed (h : s.setup[9] = .failed) : s.judgeChord =
    { s with chord := ⟨0, 0, 0⟩ }.setupInvalid none (byteAddr (s.controlLine 9)) 0x01 := by
  simp only [State.judgeChord, h]
  rfl

theorem judgeChord_bad {l : Line} (h : s.setup[9] = .taken l)
    (hbad : l.extractLsb' 0 4 ≠ 0 ∧ ¬(1000 ≤ (fieldAt l 2 16).toNat ∧ (fieldAt l 2 16).toNat ≤ 10000)) :
    s.judgeChord = { s with chord := ⟨0, (fieldAt l 2 16).toNat, (byteAt l 4).toNat⟩ }.setupInvalid none
      (byteAddr (s.controlLine 9)) 0x07 := by
  simp only [State.judgeChord, h, parseChord_eq]
  rw [if_pos hbad]

theorem judgeChord_good {l : Line} (h : s.setup[9] = .taken l)
    (hgood : ¬(l.extractLsb' 0 4 ≠ 0 ∧ ¬(1000 ≤ (fieldAt l 2 16).toNat ∧ (fieldAt l 2 16).toNat ≤ 10000))) :
    s.judgeChord = { s with chord := ⟨l.extractLsb' 0 4, (fieldAt l 2 16).toNat, (byteAt l 4).toNat⟩ } := by
  simp only [State.judgeChord, h, parseChord_eq]
  rw [if_neg hgood]

/-! ### The end of LOADING (R172) -/

/-- The tables built, before the requests of clear-at-arm are handed. -/
def State.built (s : State) : State := s.judgeAll.loadCounters.resetInputs

theorem completeLoading_eq : s.completeLoading =
    ({ s.built.handSweeps (s.built.requestsFor .arm fun r => if r.clearAtArm then some .clear else none) with
      wasActive := true }.writeArmingResult).enter .active := rfl

theorem exec_loadingComplete_of (hs : s.partState = .loading) (hread : ∀ k : Fin 42, 4 ≤ k.val → s.setup[k].ended)
    (hhead : s.head = none) : exec .loadingComplete s = .next (s.commit s.completeLoading) := by
  have hsettings : s.settingsRead = true := by
    simp only [State.settingsRead, hs, beq_self_eq_true, Bool.true_and, List.all_eq_true, Bool.or_eq_true,
      decide_eq_true_eq]
    exact fun k _ => (Nat.lt_or_ge k.val 4).imp id (hread k)
  rw [exec_loadingComplete, if_pos hsettings, finish_some, examineHead_of_none (by simpa using hhead)]

theorem completeLoading_windows : s.completeLoading.windows = s.judgeAll.windows := by
  simp [State.completeLoading]

theorem completeLoading_live : s.completeLoading.live = s.judgeAll.live := by simp [State.completeLoading]

theorem completeLoading_bindings : s.completeLoading.bindings = s.judgeAll.bindings := by simp [State.completeLoading]

theorem completeLoading_chord : s.completeLoading.chord = s.judgeAll.chord := by simp [State.completeLoading]

theorem completeLoading_fellToDefault : s.completeLoading.fellToDefault = s.judgeAll.fellToDefault := by
  simp [State.completeLoading]

theorem completeLoading_wasActive : s.completeLoading.wasActive = true := by simp [State.completeLoading]

theorem completeLoading_intervals (w : WindowNo) : s.completeLoading.intervals[w] =
    if (s.completeLoading.inService w).isSome then s.completeLoading.live.interval w else 0 := by
  have hintervals : s.completeLoading.intervals[w] = s.judgeAll.loadedInterval w := by
    simp [State.completeLoading, State.loadCounters]
  rw [hintervals, completeLoading_live, inService_congr completeLoading_windows, State.loadedInterval]
  cases s.judgeAll.inService w <;> rfl

theorem completeLoading_inputs : s.completeLoading.levels = none ∧
    (∀ n : InputNo, s.completeLoading.inputs[n] = ⟨0, 0, .inactive, 0⟩) ∧ s.completeLoading.chordTimer = 0 ∧
    s.completeLoading.chordFired = false ∧ s.completeLoading.servicePos = 0 ∧ s.completeLoading.eventClaim = none := by
  simp [State.completeLoading, State.resetInputs, InputState.reset]

theorem completeLoading_command_running (h : s.command.state = .running) : s.completeLoading.command =
    { s.command with result := if s.completeLoading.fellToDefault then .setupWarn else .ok, state := .done } := by
  rw [completeLoading_fellToDefault, completeLoading_eq, State.writeArmingResult]
  rw [if_pos (by simpa [State.built] using h)]
  simp [State.built, completeCommand_eq, State.armingResult]

theorem completeLoading_command_idle (h : s.command.state ≠ .running) : s.completeLoading.command =
    { s.command with result := if s.completeLoading.fellToDefault then .setupWarn else .ok } := by
  rw [completeLoading_fellToDefault, completeLoading_eq, State.writeArmingResult]
  rw [if_neg (by simpa [State.built] using h)]
  simp [State.built, State.armingResult]

theorem completeLoading_sweepQueue (hn : (s.sweepQueue.map (·.window)).Nodup) : s.completeLoading.sweepQueue =
    s.sweepQueue ++ (List.finRange 16).filterMap fun w =>
      if s.sweepQueue.any (fun p => p.window == w) then none
      else (s.completeLoading.inService w).bind fun r => if r.clearAtArm then some ⟨w, .clear, .arm⟩ else none := by
  have hbuilt : s.built.sweepQueue = s.sweepQueue := by simp [State.built]
  have hhanded := handSweeps_requestsFor (s := s.built) (by rwa [hbuilt]) .arm
    fun r => if r.clearAtArm then some .clear else none
  have hqueue : s.completeLoading.sweepQueue = (s.built.handSweeps
      (s.built.requestsFor .arm fun r => if r.clearAtArm then some .clear else none)).sweepQueue := by
    rw [completeLoading_eq]
    simp
  rw [hqueue, hhanded, hbuilt]
  refine congrArg _ (List.filterMap_congr fun w _ => ?_)
  have hservice : s.completeLoading.inService w = s.built.inService w :=
    inService_congr (by simp [State.completeLoading, State.built]) w
  rw [hservice]
  cases s.built.inService w with
  | none => rfl
  | some r => cases hc : r.clearAtArm <;> simp [hc]

theorem completeLoading_flagsStand : s.judgeAll.FlagsStand s.completeLoading := by
  have hP := flagsStand_closedUnderUpdates s.judgeAll
  have hbuilt : s.judgeAll.FlagsStand s.built := hP.resetInputs (hP.loadCounters (.refl s.judgeAll))
  rw [completeLoading_eq]
  exact hP.enter _ (hP.writeArmingResult (hP.setWasActive true (hP.handSweeps _ hbuilt)))

theorem State.Fell.completeLoading (h : s.judgeAll.Fell) : s.completeLoading.Fell :=
  ⟨completeLoading_fellToDefault.trans h.1, completeLoading_flagsStand.part h.2⟩

theorem judgeAll_bindings (n : InputNo) :
    s.judgeAll.bindings[n] = s.judgeMasks.judgeIntervals.judgeWindows.boundBy n := by
  rw [← judgeBindings_bindings]
  simp [State.judgeAll]

/-- A binding lost in LOADING is a setting fallen to its default in the result. -/
theorem completeLoading_binding_fell (hs : s.partState = .loading) (n : InputNo)
    (hnone : s.completeLoading.bindings[n] = none)
    (hon : ∀ l, s.setup[7 + n.val / 2]'(by omega) = .taken l → l.getLsbD (64 * (n.val % 2)) = true) :
    s.completeLoading.Fell := by
  rw [completeLoading_bindings, judgeAll_bindings] at hnone
  have hfell := judgeBindings_fell (s := s.judgeMasks.judgeIntervals.judgeWindows) (by simpa using hs) n hnone
    (by simpa [parse_binding] using hon)
  exact State.Fell.completeLoading hfell.judgeChord

theorem setup_binding {n : InputNo} {line : Fin 42} (h : line.val = 7 + n.val / 2) :
    s.setup[7 + n.val / 2]'(by omega) = s.setup[line] := by
  simp only [← h]
  rfl

end Sys2Proof.Machine
end

section
/-!
SUPPORT. The statement of the end of LOADING.
-/

namespace Sys2Proof.Machine

variable {s t u : State}

theorem commit_windows (s u : State) : (s.commit u).windows = u.windows := by simp

/-- The settings the arming takes from lines 4 to 6 (R150). -/
theorem completeLoading_live_taken :
    (∀ l, s.setup[4] = .taken l → s.completeLoading.live.masks = l) ∧
    (s.setup[4] = .failed → s.completeLoading.live.masks = 0) ∧
    (∀ l, s.setup[5] = .taken l → s.completeLoading.live.intervalsLow = l) ∧
    (∀ l, s.setup[6] = .taken l → s.completeLoading.live.intervalsHigh = l) := by
  have hlive : s.completeLoading.live = s.judgeMasks.judgeIntervals.live := completeLoading_live.trans judgeAll_live
  have hsetup : s.judgeMasks.setup = s.setup := by simp
  simp only [hlive, judgeIntervals_masks]
  exact ⟨fun l h => judgeMasks_taken h, judgeMasks_failed, fun l h => judgeIntervals_low (by rw [hsetup, h]),
    fun l h => judgeIntervals_high (by rw [hsetup, h])⟩

/-- The binding of each input after LOADING (R129, R130). -/
theorem completeLoading_binding (hs : s.partState = .loading) (n : InputNo) (line : Fin 42)
    (hline : line.val = 7 + n.val / 2) :
    (s.setup[line] = .failed → s.completeLoading.bindings[n] = none ∧ s.completeLoading.Fell) ∧
    ∀ l, s.setup[line] = .taken l →
      (∀ b, s.completeLoading.bindings[n] = some b ↔ l.getLsbD (64 * (n.val % 2)) = true ∧
        (s.completeLoading.bindingTests n l).pass ∧ b.describedBy n l ∧
        s.completeLoading.windowOf b.target = some b.window) ∧
      (l.getLsbD (64 * (n.val % 2)) = true → s.completeLoading.bindings[n] = none → s.completeLoading.Fell) := by
  have hslot := setup_binding (s := s) hline
  have hbinding : s.completeLoading.bindings[n] = s.judgeMasks.judgeIntervals.judgeWindows.boundBy n := by
    rw [completeLoading_bindings, judgeAll_bindings]
  have hjudged : s.judgeMasks.judgeIntervals.judgeWindows.setup = s.setup := by simp
  refine ⟨fun hf => ?_, fun l hl => ⟨fun b => ?_, fun hon hnone => ?_⟩⟩
  · have hunread (l : Line) : s.setup[7 + n.val / 2]'(by omega) ≠ .taken l := by simp [hslot, hf]
    have hnone : s.completeLoading.bindings[n] = none := by
      rw [hbinding]
      exact boundBy_unread (by simpa only [hjudged] using hunread)
    exact ⟨hnone, completeLoading_binding_fell hs n hnone fun l hl => absurd hl (hunread l)⟩
  · have hwindows : s.completeLoading.windows = s.judgeMasks.judgeIntervals.judgeWindows.windows :=
      completeLoading_windows.trans judgeAll_windows
    rw [hbinding, bindingTests_congr hwindows, windowOf_congr hwindows]
    exact boundBy_eq_some_iff (by rw [← hl, ← hslot]; simp only [hjudged]) b
  · refine completeLoading_binding_fell hs n hnone fun l' hl' => ?_
    rw [hslot, hl] at hl'
    cases hl'
    exact hon

/-- The chord setting after LOADING (R130). -/
theorem completeLoading_chord_setting (hs : s.partState = .loading) :
    (s.setup[9] = .failed → s.completeLoading.chord = ⟨0, 0, 0⟩ ∧ s.completeLoading.Fell) ∧
    ∀ l, s.setup[9] = .taken l →
      let hold := (fieldAt l 2 16).toNat
      let bad := l.extractLsb' 0 4 ≠ 0 ∧ ¬(1000 ≤ hold ∧ hold ≤ 10000)
      s.completeLoading.chord = ⟨if bad then 0 else l.extractLsb' 0 4, hold, (byteAt l 4).toNat⟩ ∧
      (bad → s.completeLoading.Fell) := by
  have hjudged : s.judgeMasks.judgeIntervals.judgeWindows.judgeBindings.setup = s.setup := by simp
  have hloading : s.judgeMasks.judgeIntervals.judgeWindows.judgeBindings.partState = .loading := by simpa using hs
  generalize hu : s.judgeMasks.judgeIntervals.judgeWindows.judgeBindings = u at hjudged hloading
  have hall : s.judgeAll = u.judgeChord := by rw [State.judgeAll, hu]
  refine ⟨fun hf => ?_, fun l hl => ?_⟩
  · rw [← hjudged] at hf
    have hoff := hall.trans (judgeChord_failed hf)
    rw [completeLoading_chord, hoff]
    refine ⟨by simp, State.Fell.completeLoading ?_⟩
    rw [hoff]
    exact fell_of_setupInvalid (s := { u with chord := ⟨0, 0, 0⟩ }) hloading _ _ _
  · rw [← hjudged] at hl
    intro hold bad
    by_cases hbad : bad
    · have hoff := hall.trans (judgeChord_bad hl hbad)
      rw [completeLoading_chord, if_pos hbad, hoff]
      refine ⟨by simp [hold], fun _ => State.Fell.completeLoading ?_⟩
      rw [hoff]
      exact fell_of_setupInvalid (by exact hloading) _ _ _
    · rw [completeLoading_chord, if_neg hbad, hall.trans (judgeChord_good hl hbad)]
      exact ⟨rfl, fun h => absurd h hbad⟩

theorem completeLoading_marks (w : WindowNo) :
    s.completeLoading.windows[w].armed = true ∧ s.completeLoading.windows[w].sequence = 0 := by
  rw [completeLoading_windows, judgeAll_windows]
  exact judgeWindows_marks w

/-- Settles O10. -/
theorem loadingCompleteArmsTheBridge : Obligations.LoadingCompleteArmsTheBridge := by
  refine ⟨fun s hs hread hhead => ?_, fun s n line hline => ?_, fun s => ?_⟩
  · have hwindows := commit_windows s s.completeLoading
    refine ⟨_, exec_loadingComplete_of hs hread hhead, ?_⟩
    simp only [commit_keeps, inService_congr hwindows, bindingTests_congr hwindows, windowOf_congr hwindows]
    obtain ⟨hmasks, hmasksFailed, hlow, hhigh⟩ := completeLoading_live_taken (s := s)
    obtain ⟨hlevels, hinputs, htimer, hfired, hpos, hclaim⟩ := completeLoading_inputs (s := s)
    obtain ⟨hchordFailed, hchord⟩ := completeLoading_chord_setting hs
    refine ⟨by simp, completeLoading_wasActive, by simp, completeLoading_marks, completeLoading_intervals,
      hmasks, hmasksFailed,
      hlow, hhigh, hlevels, hinputs, htimer, hfired, hpos, hclaim, by simp, by simp, completeLoading_command_running,
      completeLoading_command_idle, fun n line hline => completeLoading_binding hs n line hline, hchordFailed, hchord,
      completeLoading_sweepQueue⟩
  · intro off
    have hslot := setup_binding (s := s) hline
    have hoff (code : BitVec 32) : s.disableBinding n code = off code := by
      simp only [State.disableBinding, setupInvalid_eq_fallen, off, bindingLine, hline]
    refine ⟨fun hf => ?_, fun l hl => ⟨fun he => ?_, fun he code hcode => ?_⟩⟩
    · rw [judgeBinding_unread (by simp [hslot, hf]), hoff]
    · exact judgeBinding_off (hslot.trans hl) (by simpa [parse_binding] using he)
    · rw [judgeBinding_error (hslot.trans hl) (by simpa [parse_binding] using he)
        ((bindingOf_tests s n l).1 code hcode),
        hoff]
  · refine ⟨fun hf => ?_, fun l hl => ?_⟩
    · rw [judgeChord_failed hf, setupInvalid_eq_fallen]
    · intro hold hmembers hbad
      rw [judgeChord_bad hl ⟨hmembers, hbad⟩, setupInvalid_eq_fallen]

end Sys2Proof.Machine
end

section
/-!
SUPPORT. Validation of the window descriptors in window order (R34, R40 to R46).
-/

namespace Sys2Proof.Machine

variable {s t u : State}

/-! ### What a window is judged by -/

theorem shadowHolds_congr {w : WindowNo} (h : t.record w = s.record w) (l : LineAddr) :
    t.shadowHolds l w = s.shadowHolds l w := by
  simp only [State.shadowHolds, h]

/-- The overlap tests of a window read the Control Area, the log region and the windows below it (R40). -/
theorem linesFree_congr {w : WindowNo} (hsel : t.setupSel = s.setupSel) (hstyle : t.logStyle = s.logStyle)
    (hbase : t.logBase = s.logBase) (hbelow : ∀ v < w, t.record v = s.record v) (base : LineAddr) (len : Nat) :
    t.linesFree w base len ↔ s.linesFree w base len := by
  simp only [State.linesFree, controlIndex_congr hsel, inLog_congr hstyle hbase]
  refine forall_congr' fun l => imp_congr_right fun _ => and_congr_right fun _ => and_congr_right fun _ =>
    forall_congr' fun v => imp_congr_right fun hv => ?_
  rw [shadowHolds_congr (hbelow v hv), hbelow v hv]

theorem windowTests_congr {w : WindowNo} (hsel : t.setupSel = s.setupSel) (hstyle : t.logStyle = s.logStyle)
    (hbase : t.logBase = s.logBase) (hbelow : ∀ v < w, t.record v = s.record v) (r : WindowRecord) :
    t.windowTests w r = s.windowTests w r := by
  simp only [State.windowTests, linesFree_congr hsel hstyle hbase hbelow]

/-! ### One window -/

section

variable {w : WindowNo} {x y : Line}

theorem judgeWindow_taken (hx : s.setup[10 + 2 * w.val]'(by omega) = .taken x)
    (hy : s.setup[11 + 2 * w.val]'(by omega) = .taken y) : s.judgeWindow w =
      if descriptorUnused x then s
      else match parseDescriptor x y with
      | none => s.disableWindow w 0x02
      | some r =>
        match s.recordFault r with
        | some code => s.disableWindow w code
        | none => s.setWindow w { s.windows[w] with record := some r } := by
  simp only [State.judgeWindow, hx, hy] <;> rfl

theorem judgeWindow_unused (hx : s.setup[10 + 2 * w.val]'(by omega) = .taken x)
    (hy : s.setup[11 + 2 * w.val]'(by omega) = .taken y) (hun : unusedDescriptor x) : s.judgeWindow w = s := by
  rw [judgeWindow_taken hx hy, if_pos ((descriptorUnused_iff x).2 hun)]

theorem judgeWindow_unparsed (hx : s.setup[10 + 2 * w.val]'(by omega) = .taken x)
    (hy : s.setup[11 + 2 * w.val]'(by omega) = .taken y) (hun : ¬unusedDescriptor x)
    (hno : ∀ r : WindowRecord, ¬r.describedBy x y) : s.judgeWindow w = s.disableWindow w 0x02 := by
  have hnone : parseDescriptor x y = none :=
    Option.eq_none_iff_forall_ne_some.2 fun r hr => hno r ((parseDescriptor_iff x y r).1 hr)
  rw [judgeWindow_taken hx hy, if_neg (mt (descriptorUnused_iff x).1 hun), hnone]

theorem judgeWindow_fault {r : WindowRecord} {code : BitVec 32} (hx : s.setup[10 + 2 * w.val]'(by omega) = .taken x)
    (hy : s.setup[11 + 2 * w.val]'(by omega) = .taken y) (hun : ¬unusedDescriptor x) (hr : r.describedBy x y)
    (hfault : s.recordFault r = some code) : s.judgeWindow w = s.disableWindow w code := by
  rw [judgeWindow_taken hx hy, if_neg (mt (descriptorUnused_iff x).1 hun), (parseDescriptor_iff x y r).2 hr]
  simp only [hfault]

theorem judgeWindow_valid {r : WindowRecord} (hx : s.setup[10 + 2 * w.val]'(by omega) = .taken x)
    (hy : s.setup[11 + 2 * w.val]'(by omega) = .taken y) (hun : ¬unusedDescriptor x) (hr : r.describedBy x y)
    (hfault : s.recordFault r = none) :
    s.judgeWindow w = s.setWindow w { s.windows[w] with record := some r } := by
  rw [judgeWindow_taken hx hy, if_neg (mt (descriptorUnused_iff x).1 hun), (parseDescriptor_iff x y r).2 hr]
  simp only [hfault]

theorem judgeWindow_unread (h : ¬∃ x y, s.setup[10 + 2 * w.val]'(by omega) = .taken x ∧
    s.setup[11 + 2 * w.val]'(by omega) = .taken y) : s.judgeWindow w = s.disableWindow w 0x01 := by
  unfold State.judgeWindow
  split
  · exact absurd ⟨_, _, ‹_›, ‹_›⟩ h
  · rfl

end

theorem disableWindow_eq_fallen {w : WindowNo} {k : Fin 42} (hk : k.val = 10 + 2 * w.val) (code : BitVec 32) :
    s.disableWindow w code = s.fallen (some w) (byteAddr (s.controlLine k.val)) code := by
  rw [State.disableWindow, setupInvalid_eq_fallen, hk]

theorem setup_first {w : WindowNo} {k : Fin 42} (h : k.val = 10 + 2 * w.val) :
    s.setup[10 + 2 * w.val]'(by omega) = s.setup[k] := by
  simp only [← h]
  rfl

theorem setup_second {w : WindowNo} {m : Fin 42} (h : m.val = 11 + 2 * w.val) :
    s.setup[11 + 2 * w.val]'(by omega) = s.setup[m] := by
  simp only [← h]
  rfl

theorem disableWindow_fell (hs : s.partState = .loading) (w : WindowNo) (code : BitVec 32) :
    (s.disableWindow w code).Fell := fell_of_setupInvalid hs _ _ _

theorem setWindow_record (w v : WindowNo) (x : WindowSlot) :
    (s.setWindow w x).record v = if w = v then x.record else s.record v := by
  by_cases h : w = v
  · subst h
    simp [State.record, State.setWindow]
  · simp [State.record, State.setWindow, Fin.val_inj, h]

/-- What a window's two lines describe, where they were read, used, and no test holds (R40, R41). -/
def State.validBy (s : State) (w : WindowNo) (r : WindowRecord) : Prop :=
  ∃ x y, s.setup[10 + 2 * w.val]'(by omega) = .taken x ∧ s.setup[11 + 2 * w.val]'(by omega) = .taken y ∧
    ¬unusedDescriptor x ∧ r.describedBy x y ∧ (s.windowTests w r).pass

/-- The outcomes of judging a window: unused, disabled, or valid with the record its lines describe. -/
theorem judgeWindow_cases (w : WindowNo) (hnone : ∀ v : WindowNo, w ≤ v → s.record v = none) :
    (s.judgeWindow w = s ∧ (∃ x y, s.setup[10 + 2 * w.val]'(by omega) = .taken x ∧
        s.setup[11 + 2 * w.val]'(by omega) = .taken y ∧ unusedDescriptor x) ∧ ∀ r, ¬s.validBy w r) ∨
      (∃ code, s.judgeWindow w = s.disableWindow w code ∧ ∀ r, ¬s.validBy w r) ∨
      ∃ r, s.judgeWindow w = s.setWindow w { s.windows[w] with record := some r } ∧ ∀ q, s.validBy w q ↔ q = r := by
  by_cases hread : ∃ x y, s.setup[10 + 2 * w.val]'(by omega) = .taken x ∧ s.setup[11 + 2 * w.val]'(by omega) = .taken y
  · obtain ⟨x, y, hx, hy⟩ := hread
    have hvalid (q : WindowRecord) : s.validBy w q ↔
        ¬unusedDescriptor x ∧ q.describedBy x y ∧ (s.windowTests w q).pass := by
      simp [State.validBy, hx, hy]
    by_cases hun : unusedDescriptor x
    · exact .inl ⟨judgeWindow_unused hx hy hun, ⟨x, y, hx, hy, hun⟩, fun r h => ((hvalid r).1 h).1 hun⟩
    · refine .inr ?_
      by_cases hdesc : ∃ r : WindowRecord, r.describedBy x y
      · obtain ⟨r, hr⟩ := hdesc
        have hunique {q : WindowRecord} (hq : q.describedBy x y) : q = r := by
          have := (parseDescriptor_iff x y r).2 hr
          rw [(parseDescriptor_iff x y q).2 hq] at this
          exact Option.some.inj this
        obtain ⟨-, hpass⟩ := recordFault_tests s w r hnone
        cases hfault : s.recordFault r with
        | some code =>
          refine .inl ⟨code, judgeWindow_fault hx hy hun hr hfault, fun q h => ?_⟩
          obtain ⟨-, hq, hqpass⟩ := (hvalid q).1 h
          rw [hunique hq] at hqpass
          simp [hpass.2 hqpass] at hfault
        | none =>
          refine .inr ⟨r, judgeWindow_valid hx hy hun hr hfault, fun q => ?_⟩
          rw [hvalid]
          exact ⟨fun h => hunique h.2.1, fun h => h ▸ ⟨hun, hr, hpass.1 hfault⟩⟩
      · have hno := not_exists.1 hdesc
        exact .inl ⟨_, judgeWindow_unparsed hx hy hun hno, fun q h => hno q ((hvalid q).1 h).2.1⟩
  · refine .inr (.inl ⟨_, judgeWindow_unread hread, fun q h => hread ?_⟩)
    obtain ⟨x, y, hx, hy, -⟩ := h
    exact ⟨x, y, hx, hy⟩

theorem judgeWindow_record_ne {w v : WindowNo} (h : w ≠ v) : (s.judgeWindow w).record v = s.record v := by
  unfold State.judgeWindow
  split
  · split
    · rfl
    · split
      · exact disableWindow_record _ _ _ _
      · split
        · exact disableWindow_record _ _ _ _
        · rw [setWindow_record, if_neg h]
  · exact disableWindow_record _ _ _ _

/-- A window becomes valid exactly with the record its lines give. -/
theorem judgeWindow_record_iff (w : WindowNo) (hnone : ∀ v : WindowNo, w ≤ v → s.record v = none) (r : WindowRecord) :
    (s.judgeWindow w).record w = some r ↔ s.validBy w r := by
  have hw := hnone w le_rfl
  obtain ⟨he, -, hv⟩ | ⟨code, he, hv⟩ | ⟨q, he, hv⟩ := judgeWindow_cases w hnone
  · simp [he, hw, hv r]
  · simp [he, hw, hv r]
  · simp [he, setWindow_record, hv r, eq_comm]

/-- A used window that is not valid is a setting fallen to its default. -/
theorem judgeWindow_fell (hs : s.partState = .loading) (w : WindowNo)
    (hnone : ∀ v : WindowNo, w ≤ v → s.record v = none) (hlost : (s.judgeWindow w).record w = none)
    (hused : ∀ x y, s.setup[10 + 2 * w.val]'(by omega) = .taken x → s.setup[11 + 2 * w.val]'(by omega) = .taken y →
      ¬unusedDescriptor x) : (s.judgeWindow w).Fell := by
  obtain ⟨-, ⟨x, y, hx, hy, hun⟩, -⟩ | ⟨code, he, -⟩ | ⟨q, he, -⟩ := judgeWindow_cases w hnone
  · exact absurd hun (hused x y hx hy)
  · rw [he]
    exact disableWindow_fell hs w code
  · simp [he, setWindow_record] at hlost

/-! ### All windows -/

theorem foldl_judgeWindow_record {ws : List WindowNo} {v : WindowNo} (h : v ∉ ws) :
    (ws.foldl State.judgeWindow s).record v = s.record v := by
  induction ws generalizing s with
  | nil => rfl
  | cons w ws ih =>
    obtain ⟨hne, hv⟩ := List.ne_and_not_mem_of_not_mem_cons h
    rw [List.foldl_cons, ih hv, judgeWindow_record_ne hne.symm]

/-- The table emptied before validation. -/
def State.clearedTable (s : State) : State :=
  { s with windows := Vector.replicate 16 { record := none, armed := true, sequence := 0 } }

theorem clearedTable_record (v : WindowNo) : s.clearedTable.record v = none := by
  simp [State.record, State.clearedTable]

theorem judgeWindows_eq : s.judgeWindows = (List.finRange 16).foldl State.judgeWindow s.clearedTable := rfl

/-- Validation reaches each window with the windows below it judged and the table above it empty, and judges the others
without touching it. -/
theorem judgeWindows_at (w : WindowNo) : ∃ (before after : List WindowNo) (u : State),
    u = before.foldl State.judgeWindow s.clearedTable ∧
    s.judgeWindows = after.foldl State.judgeWindow (u.judgeWindow w) ∧
      (∀ v, w ≤ v → u.record v = none) ∧ (∀ v < w, s.judgeWindows.record v = u.record v) ∧
      s.judgeWindows.record w = (u.judgeWindow w).record w := by
  obtain ⟨before, after, hsplit⟩ := List.append_of_mem (List.mem_finRange w)
  have hsorted := List.pairwise_lt_finRange 16
  rw [hsplit, List.pairwise_append] at hsorted
  obtain ⟨-, htail, hbefore⟩ := hsorted
  have hafter := (List.pairwise_cons.1 htail).1
  have hfold : s.judgeWindows =
      after.foldl State.judgeWindow ((before.foldl State.judgeWindow s.clearedTable).judgeWindow w) := by
    rw [judgeWindows_eq, hsplit, List.foldl_append, List.foldl_cons]
  have hnotAfter (v : WindowNo) (hv : v ≤ w) : v ∉ after := fun hmem => absurd (hafter v hmem) (not_lt.2 hv)
  have hnotBefore (v : WindowNo) (hv : w ≤ v) : v ∉ before := fun hmem =>
    absurd (hbefore v hmem w (by simp)) (not_lt.2 hv)
  refine ⟨before, after, _, rfl, hfold, fun v hv => ?_, fun v hv => ?_, ?_⟩
  · rw [foldl_judgeWindow_record (hnotBefore v hv), clearedTable_record]
  · rw [hfold, foldl_judgeWindow_record (hnotAfter v hv.le), judgeWindow_record_ne hv.ne']
  · rw [hfold, foldl_judgeWindow_record (hnotAfter w le_rfl)]

/-- The Window Table after validation: a window is valid with the record its lines give, judged against the valid
windows below it (R34, R40, R46). -/
theorem judgeWindows_record_iff (w : WindowNo) (r : WindowRecord) :
    s.judgeWindows.record w = some r ↔ s.judgeWindows.validBy w r := by
  obtain ⟨before, after, u, hu, -, hnone, hbelow, hw⟩ := judgeWindows_at (s := s) w
  have hsetup : u.setup = s.setup := by rw [hu]; simp [State.clearedTable]
  have hsel : u.setupSel = s.setupSel := by rw [hu]; simp [State.clearedTable]
  have hstyle : u.logStyle = s.logStyle := by rw [hu]; simp [State.clearedTable]
  have hbase : u.logBase = s.logBase := by rw [hu]; simp [State.clearedTable]
  have htests := windowTests_congr (t := s.judgeWindows) (s := u) (by simp [hsel]) (by simp [hstyle]) (by simp [hbase])
    hbelow r
  rw [hw, judgeWindow_record_iff w hnone, State.validBy, State.validBy, htests]
  simp [hsetup]

theorem judgeWindows_fell (hs : s.partState = .loading) (w : WindowNo) (hlost : s.judgeWindows.record w = none)
    (hused : ∀ x y, s.setup[10 + 2 * w.val]'(by omega) = .taken x → s.setup[11 + 2 * w.val]'(by omega) = .taken y →
      ¬unusedDescriptor x) : s.judgeWindows.Fell := by
  obtain ⟨before, after, u, hu, hfold, hnone, -, hw⟩ := judgeWindows_at (s := s) w
  have hsetup : u.setup = s.setup := by rw [hu]; simp [State.clearedTable]
  have hloading : u.partState = .loading := by rw [hu]; simpa [State.clearedTable] using hs
  rw [hfold]
  refine List.foldlRecOn (motive := State.Fell) _ _ ?_ fun _ hb v _ => hb.judgeWindow v
  exact judgeWindow_fell hloading w hnone (hw ▸ hlost) (by simpa only [hsetup] using hused)

end Sys2Proof.Machine
end

section
/-!
SUPPORT. No line of two regions after LOADING (R42).
-/

namespace Sys2Proof.Machine

variable {s t u : State}

/-! ### The table LOADING leaves -/

theorem completeLoading_record_eq (w : WindowNo) :
    s.completeLoading.record w = s.judgeMasks.judgeIntervals.judgeWindows.record w :=
  record_congr (completeLoading_windows.trans judgeAll_windows) w

/-- After LOADING a window is valid with the record its lines give (R34, R40, R46). -/
theorem completeLoading_record_iff (w : WindowNo) (r : WindowRecord) :
    s.completeLoading.record w = some r ↔ s.completeLoading.validBy w r := by
  have htests := windowTests_congr (t := s.completeLoading) (s := s.judgeMasks.judgeIntervals.judgeWindows) (w := w)
    (by simp) (by simp) (by simp) (fun v _ => completeLoading_record_eq v) r
  rw [completeLoading_record_eq, judgeWindows_record_iff, State.validBy, State.validBy, htests]
  simp

theorem completeLoading_window_fell (hs : s.partState = .loading) (w : WindowNo)
    (hlost : s.completeLoading.record w = none)
    (hused : ∀ x y, s.setup[10 + 2 * w.val]'(by omega) = .taken x → s.setup[11 + 2 * w.val]'(by omega) = .taken y →
      ¬unusedDescriptor x) : s.completeLoading.Fell := by
  rw [completeLoading_record_eq] at hlost
  have hfell := judgeWindows_fell (s := s.judgeMasks.judgeIntervals) (by simpa using hs) w hlost
    (by simpa using hused)
  exact State.Fell.completeLoading hfell.judgeBindings.judgeChord

/-! ### Regions -/

/-- Every valid window passes the tests of Table 3-6 against the windows below it. -/
def State.TableJudged (s : State) : Prop :=
  ∀ (w : WindowNo) (r : WindowRecord), s.record w = some r → (s.windowTests w r).pass

section

variable (hjudged : s.TableJudged) {w : WindowNo} {r : WindowRecord}

include hjudged

theorem State.TableJudged.range_free (hr : s.record w = some r) : s.linesFree w r.base r.length := by
  have hpass := hjudged w r hr
  simp only [State.windowTests, pass_cons, not_not] at hpass
  exact hpass.2.2.2.1

theorem State.TableJudged.shadow_free (hr : s.record w = some r) (h0 : r.shadowBase ≠ 0) :
    s.linesFree w r.shadowBase (r.length + 1) ∧
      ∀ l, lineIn r.shadowBase (r.length + 1) l → lineIn r.base r.length l = false := by
  have hpass := hjudged w r hr
  simp only [State.windowTests, pass_cons] at hpass
  obtain ⟨-, -, -, -, hshadow, -⟩ := hpass
  simp only [not_and, not_or, not_not, not_exists, Bool.not_eq_true] at hshadow
  obtain ⟨-, hfree, hown⟩ := hshadow h0
  exact ⟨hfree, hown⟩

theorem State.TableJudged.shadowHolds_free {l : LineAddr} (h : s.shadowHolds l w = true) :
    s.controlIndex l = none ∧ s.inLog l = false ∧ ∀ v < w, s.shadowHolds l v = false ∧
      ∀ q : WindowRecord, s.record v = some q → lineIn q.base q.length l = false := by
  obtain ⟨q, hq, h0, hlo, hhi⟩ := (shadowHolds_iff w).1 h
  exact (hjudged.shadow_free hq h0).1 l ((lineIn_iff ..).2 ⟨hlo, hhi⟩)

/-- A line of a window's range lies in no shadow region (R42). -/
theorem State.TableJudged.range_not_shadow {l : LineAddr} (hr : s.record w = some r) (hl : lineIn r.base r.length l)
    (v : WindowNo) : s.shadowHolds l v = false := by
  rw [← Bool.not_eq_true]
  intro hv
  obtain hlt | heq | hgt := lt_trichotomy v w
  · simp [((hjudged.range_free hr l hl).2.2 v hlt).1] at hv
  · subst heq
    obtain ⟨q, hq, h0, hlo, hhi⟩ := (shadowHolds_iff v).1 hv
    cases hr.symm.trans hq
    simp [(hjudged.shadow_free hr h0).2 l ((lineIn_iff ..).2 ⟨hlo, hhi⟩)] at hl
  · simp [((hjudged.shadowHolds_free hv).2.2 w hgt).2 r hr] at hl

/-- A line lies in the range of one window at most (R42). -/
theorem State.TableJudged.range_unique {l : LineAddr} {v : WindowNo} {q : WindowRecord} (hr : s.record w = some r)
    (hl : lineIn r.base r.length l) (hq : s.record v = some q) (hv : lineIn q.base q.length l) : v = w := by
  obtain hlt | heq | hgt := lt_trichotomy v w
  · simp [((hjudged.range_free hr l hl).2.2 v hlt).2 q hq] at hv
  · exact heq
  · simp [((hjudged.range_free hq l hv).2.2 w hgt).2 r hr] at hl

/-- A line lies in the shadow region of one window at most (R42). -/
theorem State.TableJudged.shadow_unique {l : LineAddr} {v : WindowNo} (hw : s.shadowHolds l w = true)
    (hv : s.shadowHolds l v = true) : v = w := by
  obtain hlt | heq | hgt := lt_trichotomy v w
  · simp [((hjudged.shadowHolds_free hw).2.2 v hlt).1] at hv
  · exact heq
  · simp [((hjudged.shadowHolds_free hv).2.2 w hgt).1] at hw

end

theorem completeLoading_tableJudged : s.completeLoading.TableJudged := by
  intro w r hr
  obtain ⟨x, y, -, -, -, -, hpass⟩ := (completeLoading_record_iff w r).1 hr
  exact hpass

theorem State.TableJudged.congr (h : s.TableJudged) (hsel : t.setupSel = s.setupSel) (hstyle : t.logStyle = s.logStyle)
    (hbase : t.logBase = s.logBase) (hw : t.windows = s.windows) : t.TableJudged := by
  intro w r hr
  rw [windowTests_congr hsel hstyle hbase fun v _ => record_congr hw v]
  exact h w r (record_congr hw w ▸ hr)

/-- Each descriptor as it is judged (R40, R41, R44). -/
theorem judgeWindow_tests (w : WindowNo) (k m : Fin 42) (hk : k.val = 10 + 2 * w.val) (hm : m.val = 11 + 2 * w.val)
    (hnone : ∀ v : WindowNo, w ≤ v → s.record v = none) :
    let off := fun code => s.fallen (some w) (byteAddr (s.controlLine k.val)) code
    (s.setup[k] = .failed ∨ s.setup[m] = .failed → s.judgeWindow w = off 0x01) ∧
    ∀ x y, s.setup[k] = .taken x → s.setup[m] = .taken y →
      (unusedDescriptor x → s.judgeWindow w = s) ∧
      (¬unusedDescriptor x →
        ((∀ r : WindowRecord, ¬r.describedBy x y) → s.judgeWindow w = off 0x02) ∧
        ∀ r : WindowRecord, r.describedBy x y →
          (∀ code, (s.windowTests w r).first code → s.judgeWindow w = off code) ∧
          ((s.windowTests w r).pass →
            s.judgeWindow w = { s with windows := s.windows.set w { s.windows[w] with record := some r } })) := by
  intro off
  have hfirst := setup_first (s := s) hk
  have hsecond := setup_second (s := s) hm
  have hoff (code : BitVec 32) : s.disableWindow w code = off code := disableWindow_eq_fallen hk code
  refine ⟨fun hf => ?_, fun x y hx hy => ⟨fun hun => ?_, fun hun => ⟨fun hno => ?_, fun r hr => ?_⟩⟩⟩
  · rw [← hoff]
    refine judgeWindow_unread fun ⟨x, y, hx, hy⟩ => ?_
    rw [hfirst] at hx
    rw [hsecond] at hy
    rcases hf with hf | hf
    · cases hf.symm.trans hx
    · cases hf.symm.trans hy
  · exact judgeWindow_unused (hfirst.trans hx) (hsecond.trans hy) hun
  · rw [← hoff]
    exact judgeWindow_unparsed (hfirst.trans hx) (hsecond.trans hy) hun hno
  · obtain ⟨htests, hpass⟩ := recordFault_tests s w r hnone
    refine ⟨fun code hcode => ?_, fun hp => ?_⟩
    · rw [← hoff]
      exact judgeWindow_fault (hfirst.trans hx) (hsecond.trans hy) hun hr ((htests code).2 hcode)
    · exact judgeWindow_valid (hfirst.trans hx) (hsecond.trans hy) hun hr (hpass.2 hp)

/-- Settles O11. -/
theorem validWindowsNeverShareALine : Obligations.ValidWindowsNeverShareALine := by
  refine ⟨fun s w k m hk hm hnone => judgeWindow_tests w k m hk hm hnone, fun s hs hread hhead => ?_,
    fun s t hs hread hhead hlog hexec l => ?_⟩
  · refine ⟨_, exec_loadingComplete_of hs hread hhead, fun w k m hk hm => ⟨fun r => ?_, fun hlost hused => ?_⟩⟩
    · have htests := windowTests_congr (t := s.commit s.completeLoading) (s := s.completeLoading) (w := w)
        (by simp) (by simp) (by simp) (fun v _ => by simp) r
      rw [commit_record, completeLoading_record_iff, State.validBy, htests]
      simp only [setup_first hk, setup_second hm, completeLoading_keeps]
    · rw [commit_record] at hlost
      have hfell := completeLoading_window_fell hs w hlost (by simpa only [setup_first hk, setup_second hm] using hused)
      simpa only [commit_keeps, State.Fell] using hfell
  · rw [exec_loadingComplete_of hs hread hhead, Host.Outcome.next.injEq] at hexec
    subst hexec
    have hjudged : (s.commit s.completeLoading).TableJudged :=
      (completeLoading_tableJudged (s := s)).congr (by simp) (by simp) (by simp) (by simp)
    have hcontrol := controlIndex_congr (t := s.commit s.completeLoading) (s := s) (by simp) l
    have hinLog := inLog_congr (t := s.commit s.completeLoading) (s := s) (by simp) (by simp) l
    refine ⟨by rw [hcontrol, hinLog]; exact hlog l, fun w r hr hl => ?_, fun w hw => ?_⟩
    · obtain ⟨hc, hlogFree, -⟩ := hjudged.range_free hr l hl
      exact ⟨hc, hlogFree, hjudged.range_not_shadow hr hl, fun v q hq hv => hjudged.range_unique hr hl hq hv⟩
    · obtain ⟨hc, hlogFree, -⟩ := hjudged.shadowHolds_free hw
      exact ⟨hc, hlogFree, fun v hv => hjudged.shadow_unique hw hv⟩

end Sys2Proof.Machine
end

section
/-!
SUPPORT. Tick increments: the requests expired, the counters, and the sample (R26, R120, R121, R125, R127, R143, R169).
-/

namespace Sys2Proof.Machine

variable {s t u : State}

/-! ### Expired requests (R26) -/

/-- A tag after the expiries that are due are taken. -/
def TagState.afterExpiry : TagState → TagState
  | .outstanding rec => if rec.expired then .retired else .outstanding rec
  | x => x

theorem TagState.afterExpiry_afterExpiry (x : TagState) : x.afterExpiry.afterExpiry = x.afterExpiry := by
  cases x with
  | outstanding rec => cases h : rec.expired <;> simp [afterExpiry, h]
  | free | retired => rfl

theorem expire_of_expired {d : DownTag} {rec : TagRecord} (h : s.tags[d] = .outstanding rec) (he : rec.expired = true) :
    s.expire d = some ((s.setTag d .retired).deliver d rec .expired) := by
  simp only [State.expire, h, he, if_true]

theorem expire_tags (d e : DownTag) : ((s.expire d).getD s).tags[e] =
    if d = e then s.tags[e].afterExpiry else s.tags[e] := by
  by_cases hexp : ∃ rec, s.tags[d] = .outstanding rec ∧ rec.expired = true
  · obtain ⟨rec, hrec, he⟩ := hexp
    rw [expire_of_expired hrec he]
    by_cases hde : d = e
    · subst hde
      rw [if_pos rfl, hrec]
      simp [State.setTag, he, TagState.afterExpiry]
    · simp [State.setTag, Fin.val_inj, hde]
  · have hnone : s.expire d = none := by
      unfold State.expire
      split
      · rw [if_neg fun he => hexp ⟨_, ‹_›, he⟩]
      · rfl
    rw [hnone, Option.getD_none]
    split
    · rename_i hde
      subst hde
      cases hrec : s.tags[d] with
      | outstanding rec =>
        have he : rec.expired ≠ true := fun he => hexp ⟨rec, hrec, he⟩
        simp [TagState.afterExpiry, he]
      | free | retired => rfl
    · rfl

theorem foldl_expire_tags (ds : List DownTag) (e : DownTag) :
    (ds.foldl (fun acc d => (acc.expire d).getD acc) s).tags[e] =
      if e ∈ ds then s.tags[e].afterExpiry else s.tags[e] := by
  induction ds generalizing s with
  | nil => simp
  | cons d ds ih =>
    rw [List.foldl_cons, ih, expire_tags]
    by_cases hde : d = e
    · subst hde
      simp [TagState.afterExpiry_afterExpiry]
    · simp [hde, Ne.symm hde]

/-- What is due at the last tick is taken before the next: an expired request is RETIRED (R26). -/
theorem settle_tags (e : DownTag) : s.settle.tags[e] = s.tags[e].afterExpiry := by
  have h := foldl_expire_tags (s := s) (List.finRange 32) e
  rw [if_pos (List.mem_finRange e)] at h
  rw [← h]
  simp [State.settle]

theorem passTick_tags (v : BitVec 4) (e : DownTag) : (s.passTick v).tags[e] =
    s.tags[e].afterExpiry.compare s.boot.responseLimit (s.tick + 1) := by
  have htags : (s.passTick v).tags = s.settle.countTick.tags := by
    unfold State.passTick
    dsimp only
    split <;> simp
  rw [htags, ← settle_tags]
  simp [State.countTick, State.compareTags]

theorem passTick_tick (v : BitVec 4) : (s.passTick v).tick = s.tick + 1 := by
  unfold State.passTick
  dsimp only
  split <;> simp [State.countTick]

theorem passTick_counts (v : BitVec 4) :
    (s.passTick v).cycles = 0 ∧ (s.passTick v).evLevels = v ∧ (s.passTick v).ursp = none := by
  unfold State.passTick
  dsimp only
  split <;> simp [State.countTick]

theorem exec_tickIncrement_of (levels : BitVec 4) (h : s.bootStage ≠ .inReset) :
    exec (.tickIncrement levels) s = .next (s.commit (s.passTick levels)) := by
  rw [exec_tickIncrement, if_neg h, finish_some]

/-- Settles O13. -/
theorem tickIncrementCounts : Obligations.TickIncrementCounts := by
  intro levels s hreset
  obtain ⟨hcycles, hlevels, hursp⟩ := passTick_counts (s := s) levels
  refine ⟨_, exec_tickIncrement_of levels hreset, ?_⟩
  simp only [commit_keeps]
  refine ⟨passTick_tick levels, hcycles, hlevels, hursp, by simp, fun d => ?_⟩
  rw [passTick_tags, passTick_tick]
  refine ⟨fun rec hrec he => ?_, fun rec hrec he => ?_, fun hfree => ?_, fun hretired => ?_⟩
  · simp [hrec, he, TagState.afterExpiry, TagState.compare]
  · simp [hrec, he, TagState.afterExpiry, TagState.compare]
  · simp [hfree, TagState.afterExpiry, TagState.compare]
  · simp [hretired, TagState.afterExpiry, TagState.compare]

/-! ### A tick with nothing left over -/

theorem foldl_getD_of_none {α : Type} {f : State → α → Option State} (xs : List α) (h : ∀ x ∈ xs, f s x = none) :
    xs.foldl (fun acc x => (f acc x).getD acc) s = s := by
  induction xs with
  | nil => rfl
  | cons x xs ih =>
    rw [List.foldl_cons, h x (by simp), Option.getD_none]
    exact ih fun y hy => h y (by simp [hy])

theorem settle_of_quiet (h : s.quiet = true) : s.settle = s := by
  simp only [State.quiet, Bool.and_eq_true, List.all_eq_true, Option.isNone_iff_eq_none] at h
  obtain ⟨⟨⟨hexpire, hinputs⟩, hchord⟩, hinterval⟩ := h
  unfold State.settle
  rw [foldl_getD_of_none _ fun d _ => hexpire d (List.mem_finRange d)]
  dsimp only
  rw [foldl_getD_of_none _ fun n _ => (hinputs n (List.mem_finRange n)).1]
  rw [foldl_getD_of_none _ fun n _ => (hinputs n (List.mem_finRange n)).2, hchord, Option.getD_none]
  exact foldl_getD_of_none _ fun w _ => hinterval w (List.mem_finRange w)

theorem passTick_of_quiet (levels : BitVec 4) (hactive : s.partState = .active) (h : s.quiet = true) :
    s.passTick levels =
      ({ s.countTick with evLevels := levels, newCounts := 0 } : State).countIntervals.sample levels := by
  unfold State.passTick
  rw [settle_of_quiet h]
  exact if_pos (by simpa using hactive)

/-! ### The interval counters (R143) -/

theorem windowMask_getLsbD : ∀ w v : WindowNo, (windowMask w).getLsbD v.val = decide (v = w) := by decide

theorem foldl_windowMask_getLsbD (p : WindowNo → Prop) [DecidablePred p] (ws : List WindowNo) (d : BitVec 16)
    (v : WindowNo) : (ws.foldl (fun acc w => if p w then acc ||| windowMask w else acc) d).getLsbD v.val =
      (d.getLsbD v.val || decide (v ∈ ws ∧ p v)) := by
  induction ws generalizing d with
  | nil => simp
  | cons w ws ih =>
    rw [List.foldl_cons, ih]
    by_cases hp : p w
    · rw [if_pos hp, BitVec.getLsbD_or, windowMask_getLsbD]
      by_cases hvw : v = w
      · subst hvw
        simp [hp]
      · simp [hvw]
    · rw [if_neg hp]
      by_cases hvw : v = w
      · subst hvw
        simp [hp]
      · simp [hvw]

theorem countIntervals_due (w : WindowNo) :
    s.countIntervals.intervalDue.getLsbD w.val = (s.intervalDue.getLsbD w.val || decide (s.intervals[w] = 1)) := by
  have h := foldl_windowMask_getLsbD (fun v => s.intervals[v] = 1) (List.finRange 16) s.intervalDue w
  simpa [State.countIntervals] using h

end Sys2Proof.Machine
end

section
/-!
SUPPORT. A sample of the event inputs in ACTIVE (R120, R121, R125, R127).
-/

namespace Sys2Proof.Machine

variable {s t u : State}

/-! ### The sample -/

theorem sample_first (levels : BitVec 4) (h : s.levels = none) : s.sample levels = s.armingSample levels := by
  simp only [State.sample, h]

/-- The state with its inputs as a sample leaves them. -/
def State.inputsSampled (s : State) (levels v : BitVec 4) : State :=
  { s with inputs := Vector.ofFn (s.sampledInput levels v) }

theorem sample_later (levels : BitVec 4) {v : BitVec 4} (h : s.levels = some v) : s.sample levels =
    { s.inputsSampled levels v with chordTimer := (s.inputsSampled levels v).sampledChord v } := by
  unfold State.sample
  split
  · rename_i hnone
    cases hnone.symm.trans h
  · rename_i hsome
    cases hsome.symm.trans h
    rfl

theorem sampledInput_count (levels v : BitVec 4) (n : InputNo) : (s.sampledInput levels v n).debounceCount =
    if levels.getLsbD n.val = v.getLsbD n.val then 0 else s.inputs[n].debounceCount + 1 := by
  simp [State.sampledInput, debounced]

theorem sampledInput_timer_stands (levels v : BitVec 4) (n : InputNo)
    (h : s.inputs[n].stuck ≠ .pressed ∨ s.chord.stuckLimit = 0) :
    (s.sampledInput levels v n).stuckTimer = s.inputs[n].stuckTimer := by
  have hoff : (s.inputs[n].stuck == .pressed && s.stuckTicks != 0) = false := by
    rw [Bool.and_eq_false_iff]
    exact h.imp (fun h => beq_eq_false_iff_ne.2 h) fun h => by simp [State.stuckTicks, h]
  simp only [State.sampledInput, hoff, Bool.false_and, Bool.false_eq_true, if_false]

theorem sampledInput_timer_counts (levels v : BitVec 4) (n : InputNo) (hp : s.inputs[n].stuck = .pressed)
    (hlimit : s.chord.stuckLimit ≠ 0) (hlevel : levels.getLsbD n.val = v.getLsbD n.val) :
    (s.sampledInput levels v n).stuckTimer = s.inputs[n].stuckTimer + 1 := by
  have hon : (s.stuckTicks != 0) = true := by simp [State.stuckTicks, hlimit]
  have hcount : (0 != s.debounceTime n + 1) = true := by simp
  simp only [State.sampledInput, debounced, hp, hlevel, beq_self_eq_true, hon, hcount, Bool.and_self, if_true]

/-- Every member of the chord is active (R127). -/
theorem chordHeld_iff (v : BitVec 4) :
    s.chordHeld v = true ↔ s.chord.members ≠ 0 ∧ s.chord.members &&& v = s.chord.members := by
  simp [State.chordHeld]

theorem debounceTime_congr (h : t.bindings = s.bindings) (n : InputNo) : t.debounceTime n = s.debounceTime n := by
  simp only [State.debounceTime, State.binding, h]

theorem sampledChord_counts {v : BitVec 4} (hheld : s.chordHeld v = true) (hfired : s.chordFired = false)
    (hdue : ∀ m : InputNo, s.chord.members.getLsbD m.val = true → s.changeDue m = false) :
    s.sampledChord v = s.chordTimer + 1 := by
  have hall : (List.finRange 4).all (fun n => !(s.chord.members.getLsbD n.val && s.changeDue n)) = true := by
    simp only [List.all_eq_true, Bool.not_eq_true', Bool.and_eq_false_iff]
    intro m _
    cases hm : s.chord.members.getLsbD m.val with
    | false => exact .inl rfl
    | true => exact .inr (hdue m hm)
  rw [State.sampledChord, if_pos hheld, hfired, hall]
  rfl

theorem sampledChord_stands {v : BitVec 4} (h : ¬s.chordHeld v = true ∨ s.chordFired = true ∨
    ∃ m : InputNo, s.chord.members.getLsbD m.val = true ∧ s.changeDue m = true) : s.sampledChord v = s.chordTimer := by
  unfold State.sampledChord
  rcases h with h | h | ⟨m, hm, hdue⟩
  · rw [if_neg h]
  · simp [h]
  · split
    · rw [if_neg]
      simp only [Bool.and_eq_true, List.all_eq_true, not_and]
      intro _ hall
      have hm' := hall m (List.mem_finRange m)
      simp only [hm, hdue] at hm'
      contradiction
    · rfl

theorem changeDue_iff (n : InputNo) : s.changeDue n = true ↔
    s.partState = .active ∧ s.levels.isSome = true ∧ s.inputs[n].debounceCount = s.debounceTime n + 1 := by
  simp [State.changeDue, and_assoc]

theorem armingSample_inputs (levels : BitVec 4) (n : InputNo) : (s.armingSample levels).inputs[n] =
    { s.inputs[n] with
      debounceCount := 0, stuckTimer := 0
      stuck := if levels.getLsbD n.val ∧ s.bindings[n].isSome then .pressed else .inactive } := by
  simp [State.armingSample, State.binding]

/-- Where a sample after the first leaves the chord timer. -/
theorem sample_chordTimer (levels : BitVec 4) {v : BitVec 4} (hactive : s.partState = .active) (h : s.levels = some v) :
    let held := s.chord.members ≠ 0 ∧ s.chord.members &&& v = s.chord.members
    let memberDue := ∃ m : InputNo, s.chord.members.getLsbD m.val ∧
      (s.sample levels).inputs[m].debounceCount = s.debounceTime m + 1
    (held → s.chordFired = false → ¬memberDue → (s.sample levels).chordTimer = s.chordTimer + 1) ∧
    (¬held ∨ s.chordFired ∨ memberDue → (s.sample levels).chordTimer = s.chordTimer) := by
  intro held memberDue
  have htimer : (s.sample levels).chordTimer = (s.inputsSampled levels v).sampledChord v := by
    rw [sample_later levels h]
  have hinputs : (s.sample levels).inputs = (s.inputsSampled levels v).inputs := by rw [sample_later levels h]
  have hheld : (s.inputsSampled levels v).chordHeld v = true ↔ held := chordHeld_iff v
  have hdue (m : InputNo) : (s.inputsSampled levels v).changeDue m = true ↔
      (s.sample levels).inputs[m].debounceCount = s.debounceTime m + 1 := by
    rw [changeDue_iff, hinputs]
    simp [State.inputsSampled, State.debounceTime, State.binding, hactive, h]
  rw [htimer]
  refine ⟨fun hh hf hnone => ?_, fun hor => ?_⟩
  · refine sampledChord_counts (hheld.2 hh) hf fun m hm => ?_
    rw [← Bool.not_eq_true, hdue m]
    exact fun hcount => hnone ⟨m, hm, hcount⟩
  · refine sampledChord_stands (hor.imp (mt hheld.1) (Or.imp id ?_))
    rintro ⟨m, hm, hcount⟩
    exact ⟨m, hm, (hdue m).2 hcount⟩

/-- The state a tick in ACTIVE samples: the counts of the tick and the interval counters done. -/
def State.beforeSample (s : State) (levels : BitVec 4) : State :=
  ({ s.countTick with evLevels := levels, newCounts := 0 } : State).countIntervals

/-- Settles O14. -/
theorem tickSamplesAndCountsDown : Obligations.TickSamplesAndCountsDown := by
  intro levels s hreset hactive hquiet
  have htick : s.passTick levels = (s.beforeSample levels).sample levels := passTick_of_quiet levels hactive hquiet
  have hp : (s.beforeSample levels).partState = .active := by simpa [State.beforeSample] using hactive
  have hinputs : (s.beforeSample levels).inputs = s.inputs := by simp [State.beforeSample]
  have hlevels : (s.beforeSample levels).levels = s.levels := by simp [State.beforeSample]
  have hchord : (s.beforeSample levels).chord = s.chord := by simp [State.beforeSample]
  have htimer : (s.beforeSample levels).chordTimer = s.chordTimer := by simp [State.beforeSample]
  have hfired : (s.beforeSample levels).chordFired = s.chordFired := by simp [State.beforeSample]
  have hbindings : (s.beforeSample levels).bindings = s.bindings := by simp [State.beforeSample]
  have hdue (w : WindowNo) : ((s.beforeSample levels).sample levels).intervalDue.getLsbD w.val =
      (s.intervalDue.getLsbD w.val || decide (s.intervals[w] = 1)) := by
    have hkept : ((s.beforeSample levels).sample levels).intervalDue = (s.beforeSample levels).intervalDue := by simp
    rw [hkept, State.beforeSample, countIntervals_due]
    simp
  refine ⟨_, exec_tickIncrement_of levels hreset, ?_⟩
  rw [htick]
  simp only [commit_keeps]
  refine ⟨fun w => ?_, fun w hw => ?_, fun w hw => ?_, fun hnone => ?_, fun v hv => ?_, by simp [State.beforeSample],
    by simp [State.beforeSample], by simp [State.beforeSample], by simp [State.beforeSample],
    by simp [State.beforeSample]⟩
  · simp [State.beforeSample, State.countIntervals]
  · rw [hdue, decide_eq_true hw, Bool.or_true]
  · rw [hdue, decide_eq_false hw, Bool.or_false]
  · rw [sample_first levels (hlevels.trans hnone)]
    refine ⟨rfl, rfl, fun n => ?_⟩
    rw [armingSample_inputs, hinputs, hbindings]
  · have hv' := hlevels.trans hv
    have hchordTimer := sample_chordTimer levels hp hv'
    simp only [hchord, htimer, hfired, debounceTime_congr hbindings] at hchordTimer
    refine ⟨by rw [sample_later levels hv']; exact hv', fun n => ?_⟩
    have hsampled : ((s.beforeSample levels).sample levels).inputs[n] =
        (s.beforeSample levels).sampledInput levels v n := by
      rw [sample_later levels hv']
      simp [State.inputsSampled]
    rw [hsampled]
    simp only [← hinputs]
    exact ⟨rfl, rfl, sampledInput_count levels v n, hchord ▸ sampledInput_timer_stands levels v n,
      hchord ▸ sampledInput_timer_counts levels v n, hchordTimer⟩

end Sys2Proof.Machine
end

section
/-!
SUPPORT. An accepted change of an event input: the edge, the stuck state, the chord and the claim (R121 to R127).
-/

namespace Sys2Proof.Machine

variable {s t u : State} {n m : InputNo}

theorem setInput_inputs (n m : InputNo) (i : InputState) :
    (s.setInput n i).inputs[m] = if n = m then i else s.inputs[m] := by
  by_cases h : n = m
  · subst h
    simp [State.setInput]
  · simp [State.setInput, Fin.val_inj, h]

/-! ### The stages of a change -/

/-- The debounced level taken and the count returned to 0. -/
def State.leveled (s : State) (n : InputNo) (v : BitVec 4) : State :=
  { s with levels := some (v ^^^ (1#4 <<< n.val)) }.setInput n { s.inputs[n] with debounceCount := 0 }

/-- The edge counted where it counts, and the stuck state of the input. -/
def State.edged (s : State) (n : InputNo) (v : BitVec 4) : State :=
  match s.binding n with
  | none => s.leveled n v
  | some b =>
    let counted := if s.edgeCounts n (!v.getLsbD n.val) then (s.leveled n v).countEdge n b else s.leveled n v
    counted.setInput n (counted.inputs[n].afterChange !v.getLsbD n.val)

/-- The change made known to the chord, before the unit may claim. -/
def State.changed (s : State) (n : InputNo) (v : BitVec 4) : State :=
  if s.chord.members.getLsbD n.val then (s.edged n v).chordAfterChange v (v ^^^ (1#4 <<< n.val)) else s.edged n v

theorem acceptChange_eq (v : BitVec 4) : s.acceptChange n v = (s.changed n v).makeClaim := rfl

/-- The fields the counting of an edge does not touch. -/
theorem edged_keeps (v : BitVec 4) : (s.edged n v).levels = some (v ^^^ (1#4 <<< n.val)) ∧
    (s.edged n v).partState = s.partState ∧ (s.edged n v).bindings = s.bindings ∧ (s.edged n v).chord = s.chord ∧
    (s.edged n v).chordTimer = s.chordTimer ∧ (s.edged n v).chordFired = s.chordFired ∧
    (s.edged n v).servicePos = s.servicePos ∧ (s.edged n v).eventClaim = s.eventClaim := by
  unfold State.edged
  split
  · simp [State.leveled]
  · dsimp only
    split <;> simp [State.leveled]

theorem changed_keeps (v : BitVec 4) : (s.changed n v).levels = some (v ^^^ (1#4 <<< n.val)) ∧
    (s.changed n v).partState = s.partState ∧ (s.changed n v).bindings = s.bindings ∧
    (s.changed n v).chord = s.chord ∧ (s.changed n v).servicePos = s.servicePos ∧
    (s.changed n v).eventClaim = s.eventClaim ∧ (s.changed n v).inputs = (s.edged n v).inputs ∧
    (s.changed n v).flags = (s.edged n v).flags ∧ (s.changed n v).newCounts = (s.edged n v).newCounts := by
  obtain ⟨hl, hp, hb, hc, -, -, hpos, hclaim⟩ := edged_keeps (s := s) (n := n) v
  unfold State.changed
  split <;> simp [hl, hp, hb, hc, hpos, hclaim]

/-! ### The edge (R122, R125, R126) -/

theorem leveled_inputs (v : BitVec 4) (m : InputNo) : (s.leveled n v).inputs[m] =
    if n = m then { s.inputs[n] with debounceCount := 0 } else s.inputs[m] := by
  rw [State.leveled, setInput_inputs]

theorem countEdge_room {b : Binding} (h : s.inputs[n].pending < 15) : s.countEdge n b =
    { s.setInput n { s.inputs[n] with pending := s.inputs[n].pending + 1 } with
      newCounts := if s.inputs[n].pending = 0 then s.newCounts ||| (1#4 <<< n.val) else s.newCounts } := if_pos h

theorem countEdge_full {b : Binding} (h : 15 ≤ s.inputs[n].pending) : s.countEdge n b =
    (s.setPartFlag .eventLost).report .eventLost (some b.window) (byteAddr b.target) (b.increment.setWidth 32) :=
  if_neg (Nat.not_lt.2 h)

theorem countEdge_lost_flag {b : Binding} (h : 15 ≤ s.inputs[n].pending) :
    (s.countEdge n b).flags.part.getLsbD 5 = true := by
  rw [countEdge_full h]
  refine report_part _ _ _ _ _ 5 ?_
  simp [PartFlag.bit]

theorem countEdge_inputs {b : Binding} (m : InputNo) : (s.countEdge n b).inputs[m] =
    if n = m ∧ s.inputs[n].pending < 15 then { s.inputs[n] with pending := s.inputs[n].pending + 1 }
    else s.inputs[m] := by
  by_cases h : s.inputs[n].pending < 15
  · rw [countEdge_room h]
    simp only [setInput_inputs, h, and_true]
  · rw [countEdge_full (Nat.not_lt.1 h), if_neg fun hx => h hx.2]
    simp

theorem edgeCounts_iff {b : Binding} (h : s.bindings[n] = some b) (rises : Bool) : s.edgeCounts n rises = true ↔
    s.inputs[n].stuck ≠ .stuck ∧ (b.edge = .both ∨ (b.edge = .rising ∧ rises = true) ∨
      (b.edge = .falling ∧ ¬rises = true)) := by
  have hb : s.binding n = some b := h
  simp only [State.edgeCounts, hb, Bool.and_eq_true, bne_iff_ne]
  rw [and_comm]
  refine and_congr_right fun _ => ?_
  cases b.edge <;> simp [Edge.counts]

theorem edged_unbound (v : BitVec 4) (h : s.bindings[n] = none) : s.edged n v = s.leveled n v := by
  have hb : s.binding n = none := h
  simp only [State.edged, hb]

theorem edged_uncounted {b : Binding} {v : BitVec 4} (h : s.bindings[n] = some b)
    (hc : ¬s.edgeCounts n (!v.getLsbD n.val) = true) : s.edged n v =
      (s.leveled n v).setInput n ((s.leveled n v).inputs[n].afterChange !v.getLsbD n.val) := by
  have hb : s.binding n = some b := h
  simp only [State.edged, hb, if_neg hc]

theorem edged_counted {b : Binding} {v : BitVec 4} (h : s.bindings[n] = some b)
    (hc : s.edgeCounts n (!v.getLsbD n.val) = true) : s.edged n v =
      ((s.leveled n v).countEdge n b).setInput n
        (((s.leveled n v).countEdge n b).inputs[n].afterChange !v.getLsbD n.val) := by
  have hb : s.binding n = some b := h
  simp only [State.edged, hb, if_pos hc]

theorem edged_inputs_ne (v : BitVec 4) (h : m ≠ n) : (s.edged n v).inputs[m] = s.inputs[m] := by
  have hne : ¬n = m := fun he => h he.symm
  cases hb : s.bindings[n] with
  | none => rw [edged_unbound v hb, leveled_inputs, if_neg hne]
  | some b =>
    by_cases hc : s.edgeCounts n (!v.getLsbD n.val) = true
    · rw [edged_counted hb hc, setInput_inputs, if_neg hne, countEdge_inputs, if_neg fun hx => hne hx.1, leveled_inputs,
        if_neg hne]
    · rw [edged_uncounted hb hc, setInput_inputs, if_neg hne, leveled_inputs, if_neg hne]

theorem afterChange_rises (i : InputState) :
    (i.afterChange true).stuck = .pressed ∧ (i.afterChange true).stuckTimer = 0 := ⟨rfl, rfl⟩

theorem afterChange_falls (i : InputState) : (i.afterChange false).stuck = .inactive := rfl

theorem afterChange_debounceCount (i : InputState) (r : Bool) : (i.afterChange r).debounceCount = i.debounceCount := by
  cases r <;> rfl

theorem afterChange_pending (i : InputState) (r : Bool) : (i.afterChange r).pending = i.pending := by
  cases r <;> rfl

/-- The input itself after its change: the counts as its counted edge leaves them, then its stuck state. -/
theorem edged_bound_input {b : Binding} (v : BitVec 4) (hb : s.bindings[n] = some b) :
    ∃ i : InputState, (s.edged n v).inputs[n] = i.afterChange (!v.getLsbD n.val) ∧ i.debounceCount = 0 ∧
      i.pending = if s.edgeCounts n (!v.getLsbD n.val) = true ∧ s.inputs[n].pending < 15
        then s.inputs[n].pending + 1 else s.inputs[n].pending := by
  by_cases hc : s.edgeCounts n (!v.getLsbD n.val) = true
  · refine ⟨_, by rw [edged_counted hb hc, setInput_inputs, if_pos rfl], ?_⟩
    rw [countEdge_inputs, leveled_inputs, if_pos rfl]
    by_cases hp : s.inputs[n].pending < 15
    · rw [if_pos ⟨rfl, hp⟩, if_pos ⟨hc, hp⟩]
      exact ⟨rfl, rfl⟩
    · rw [if_neg fun hx => hp hx.2, if_neg fun hx => hp hx.2]
      exact ⟨rfl, rfl⟩
  · refine ⟨_, by rw [edged_uncounted hb hc, setInput_inputs, if_pos rfl], ?_⟩
    rw [leveled_inputs, if_pos rfl]
    rw [if_neg fun hx => hc hx.1]
    exact ⟨rfl, rfl⟩

theorem edged_debounceCount (v : BitVec 4) : (s.edged n v).inputs[n].debounceCount = 0 := by
  cases hb : s.bindings[n] with
  | none => rw [edged_unbound v hb, leveled_inputs, if_pos rfl]
  | some b =>
    obtain ⟨i, hi, hcount, -⟩ := edged_bound_input v hb
    rw [hi, afterChange_debounceCount, hcount]

theorem leveled_flags (v : BitVec 4) : (s.leveled n v).flags = s.flags := by simp [State.leveled]

theorem edged_flags_uncounted {b : Binding} {v : BitVec 4} (hb : s.bindings[n] = some b)
    (hc : ¬s.edgeCounts n (!v.getLsbD n.val) = true) : (s.edged n v).flags = s.flags := by
  rw [edged_uncounted hb hc]
  simp [leveled_flags]

theorem leveled_pending (v : BitVec 4) : (s.leveled n v).inputs[n].pending = s.inputs[n].pending := by
  rw [leveled_inputs, if_pos rfl]

theorem edged_flags_counted {b : Binding} {v : BitVec 4} (hb : s.bindings[n] = some b)
    (hc : s.edgeCounts n (!v.getLsbD n.val) = true) :
    (s.inputs[n].pending < 15 → (s.edged n v).flags = s.flags) ∧
    (15 ≤ s.inputs[n].pending → (s.edged n v).flags.part.getLsbD 5 = true) := by
  rw [edged_counted hb hc]
  simp only [setInput_keeps]
  refine ⟨fun hp => ?_, fun hp => countEdge_lost_flag (by rwa [leveled_pending])⟩
  rw [countEdge_room (by rwa [leveled_pending])]
  simp [leveled_flags]

/-! ### The claim (R123) -/

theorem edgeDue_iff : s.edgeDue m = true ↔ s.changeDue m = true ∧ ∃ v, s.levels = some v ∧
    s.edgeCounts m (!v.getLsbD m.val) = true := by
  simp [State.edgeDue, Option.any_eq_true]

theorem xor_bit_ne {v : BitVec 4} (h : m ≠ n) : (v ^^^ (1#4 <<< n.val)).getLsbD m.val = v.getLsbD m.val := by
  revert v m n
  decide

theorem xor_bit_self {v : BitVec 4} : (v ^^^ (1#4 <<< n.val)).getLsbD n.val = !v.getLsbD n.val := by
  revert v n
  decide

/-- The change of one input leaves the edges due at the others. -/
theorem changed_edgeDue_ne {v : BitVec 4} (hl : s.levels = some v) (h : m ≠ n) :
    (s.changed n v).edgeDue m = s.edgeDue m := by
  obtain ⟨hlevels, hp, hb, -, -, -, hinputs, -⟩ := changed_keeps (s := s) (n := n) v
  have hm : (s.changed n v).inputs[m] = s.inputs[m] := by rw [hinputs, edged_inputs_ne v h]
  simp only [State.edgeDue, State.changeDue, State.edgeCounts, debounceTime_congr hb, State.binding, hb, hp, hlevels,
    hm,
    hl, Option.isSome_some, Option.any_some, xor_bit_ne h]

theorem changed_edgeDue_self (v : BitVec 4) : (s.changed n v).edgeDue n = false := by
  obtain ⟨-, -, -, -, -, -, hinputs, -⟩ := changed_keeps (s := s) (n := n) v
  rw [← Bool.not_eq_true, edgeDue_iff, changeDue_iff, hinputs, edged_debounceCount]
  rintro ⟨⟨-, -, h⟩, -⟩
  omega

theorem changed_any_edgeDue {v : BitVec 4} (hl : s.levels = some v) :
    (List.finRange 4).any (s.changed n v).edgeDue = true ↔ ∃ m, m ≠ n ∧ s.edgeDue m = true := by
  simp only [List.any_eq_true, List.mem_finRange, true_and]
  refine exists_congr fun m => ?_
  by_cases h : m = n
  · subst h
    simp [changed_edgeDue_self]
  · simp [changed_edgeDue_ne hl h, h]

theorem leveled_newCounts (v : BitVec 4) : (s.leveled n v).newCounts = s.newCounts := by simp [State.leveled]

/-- Marks of new counts stand while an edge is counted. -/
theorem countEdge_newCounts_of {b : Binding} {k : Nat} (h : s.newCounts.getLsbD k = true) :
    (s.countEdge n b).newCounts.getLsbD k = true := by
  by_cases hp : s.inputs[n].pending < 15
  · rw [countEdge_room hp]
    dsimp only
    split
    · rw [BitVec.getLsbD_or, h, Bool.true_or]
    · exact h
  · rw [countEdge_full (Nat.not_lt.1 hp)]
    simpa using h

theorem countEdge_newCounts_self {b : Binding} (h : s.inputs[n].pending = 0) :
    (s.countEdge n b).newCounts.getLsbD n.val = true := by
  have hbit : ∀ (x : BitVec 4) (k : Fin 4), (x ||| (1#4 <<< k.val)).getLsbD k.val = true := by decide
  rw [countEdge_room (by omega)]
  dsimp only
  rw [if_pos h]
  exact hbit s.newCounts n

theorem edged_newCounts_of {v : BitVec 4} {k : Nat} (h : s.newCounts.getLsbD k = true) :
    (s.edged n v).newCounts.getLsbD k = true := by
  have hleveled : (s.leveled n v).newCounts.getLsbD k = true := by rwa [leveled_newCounts]
  cases hb : s.bindings[n] with
  | none => rwa [edged_unbound v hb]
  | some b =>
    by_cases hc : s.edgeCounts n (!v.getLsbD n.val) = true
    · rw [edged_counted hb hc]
      simpa only [setInput_keeps] using countEdge_newCounts_of hleveled
    · rw [edged_uncounted hb hc]
      simpa only [setInput_keeps] using hleveled

/-- A count that leaves 0 with its own change is marked. -/
theorem edged_newCounts_self {v : BitVec 4} (hnew : 0 < s.inputs[n].pending → s.newCounts.getLsbD n.val = true)
    (h : 0 < (s.edged n v).inputs[n].pending) : (s.edged n v).newCounts.getLsbD n.val = true := by
  by_cases hp : 0 < s.inputs[n].pending
  · exact edged_newCounts_of (hnew hp)
  · have hzero : s.inputs[n].pending = 0 := by omega
    cases hb : s.bindings[n] with
    | none =>
      rw [edged_unbound v hb, leveled_pending] at h
      exact absurd h hp
    | some b =>
      obtain ⟨i, hi, -, hpending⟩ := edged_bound_input v hb
      rw [hi, afterChange_pending, hpending] at h
      by_cases hc : s.edgeCounts n (!v.getLsbD n.val) = true
      · rw [edged_counted hb hc]
        simpa only [setInput_keeps] using
          countEdge_newCounts_self (s := s.leveled n v) (b := b) ((leveled_pending v).trans hzero)
      · rw [if_neg fun hx => hc hx.1] at h
        exact absurd h hp

/-- A count that stands after the change and not before it is marked as new. -/
theorem changed_newCounts {v : BitVec 4}
    (hnew : ∀ k : InputNo, 0 < s.inputs[k].pending → s.newCounts.getLsbD k.val = true)
    (k : InputNo) (hk : 0 < (s.changed n v).inputs[k].pending) : (s.changed n v).newCounts.getLsbD k.val = true := by
  obtain ⟨-, -, -, -, -, -, hinputs, -, hcounts⟩ := changed_keeps (s := s) (n := n) v
  rw [hinputs] at hk
  rw [hcounts]
  by_cases hkn : k = n
  · subst hkn
    exact edged_newCounts_self (hnew k) hk
  · rw [edged_inputs_ne v hkn] at hk
    exact edged_newCounts_of (hnew k hk)

theorem makeClaim_held (h : s.eventClaim = some m) : s.makeClaim.eventClaim = some m := by
  simp [State.makeClaim, h]

theorem makeClaim_free (h : s.eventClaim = none) :
    s.makeClaim.eventClaim = (searchOrder s.servicePos).find? s.claimable := by
  simp [State.makeClaim, h]

/-! ### The chord (R127) -/

theorem chordAfterChange_released {before after : BitVec 4} (h : ¬s.chordHeld after = true) :
    (s.chordAfterChange before after).chordTimer = 0 ∧ (s.chordAfterChange before after).chordFired = false := by
  rw [State.chordAfterChange, if_neg h]
  exact ⟨rfl, rfl⟩

theorem chordAfterChange_pressed {before after : BitVec 4} (h : s.chordHeld after = true)
    (hb : ¬s.chordHeld before = true) : (s.chordAfterChange before after).chordFired = s.chordFired ∧
      (s.chordAfterChange before after).chordTimer = if s.chordFired then s.chordTimer else 0 := by
  rw [State.chordAfterChange, if_pos h]
  cases hf : s.chordFired <;> simp [hb, hf]

theorem acceptChange_inputs (v : BitVec 4) : (s.acceptChange n v).inputs = (s.edged n v).inputs := by
  obtain ⟨-, -, -, -, -, -, hinputs, -⟩ := changed_keeps (s := s) (n := n) v
  rw [acceptChange_eq]
  simpa using hinputs

theorem acceptChange_input (v : BitVec 4) (m : InputNo) : (s.acceptChange n v).inputs[m] = (s.edged n v).inputs[m] := by
  rw [acceptChange_inputs]

theorem acceptChange_flags (v : BitVec 4) : (s.acceptChange n v).flags = (s.edged n v).flags := by
  obtain ⟨-, -, -, -, -, -, -, hflags, -⟩ := changed_keeps (s := s) (n := n) v
  rw [acceptChange_eq]
  simpa using hflags

theorem acceptChange_levels (v : BitVec 4) : (s.acceptChange n v).levels = some (v ^^^ (1#4 <<< n.val)) := by
  obtain ⟨hlevels, -⟩ := changed_keeps (s := s) (n := n) v
  rw [acceptChange_eq]
  simpa using hlevels

theorem acceptChange_bound {b : Binding} (v : BitVec 4) (hb : s.bindings[n] = some b) :
    let t := s.acceptChange n v
    let rises := v.getLsbD n.val = false
    let counted := s.inputs[n].stuck ≠ .stuck
      ∧ (b.edge = .both ∨ (b.edge = .rising ∧ rises) ∨ (b.edge = .falling ∧ ¬rises))
    (counted → s.inputs[n].pending < 15 → t.inputs[n].pending = s.inputs[n].pending + 1 ∧ t.flags = s.flags) ∧
    (counted → 15 ≤ s.inputs[n].pending →
      t.inputs[n].pending = s.inputs[n].pending ∧ t.flags.part.getLsbD 5) ∧
    (¬counted → t.inputs[n].pending = s.inputs[n].pending ∧ t.flags = s.flags) ∧
    (rises → t.inputs[n].stuck = .pressed ∧ t.inputs[n].stuckTimer = 0) ∧
    (¬rises → t.inputs[n].stuck = .inactive) := by
  intro t rises counted
  have hcounts : s.edgeCounts n (!v.getLsbD n.val) = true ↔ counted := by
    rw [edgeCounts_iff hb]
    simp only [counted, rises, Bool.not_eq_true']
  obtain ⟨i, hi, -, hpending⟩ := edged_bound_input v hb
  have hinputs : t.inputs[n] = i.afterChange !v.getLsbD n.val := by rw [acceptChange_inputs, hi]
  have hflags : t.flags = (s.edged n v).flags := acceptChange_flags v
  rw [hinputs, afterChange_pending, hpending, hflags]
  refine ⟨fun hc hp => ?_, fun hc hp => ?_, fun hc => ?_, fun hr => ?_, fun hr => ?_⟩
  · exact ⟨if_pos ⟨hcounts.2 hc, hp⟩, (edged_flags_counted hb (hcounts.2 hc)).1 hp⟩
  · exact ⟨if_neg fun hx => absurd hx.2 (Nat.not_lt.2 hp), (edged_flags_counted hb (hcounts.2 hc)).2 hp⟩
  · exact ⟨if_neg fun hx => hc (hcounts.1 hx.1), edged_flags_uncounted hb (mt hcounts.1 hc)⟩
  · have hrise : v.getLsbD n.val = false := hr
    rw [hrise]
    exact afterChange_rises i
  · have hfall : v.getLsbD n.val = true := by simpa [rises] using hr
    rw [hfall]
    exact afterChange_falls i

theorem acceptChange_chord_other (v : BitVec 4) (h : s.chord.members.getLsbD n.val = false) :
    (s.acceptChange n v).chordTimer = s.chordTimer ∧ (s.acceptChange n v).chordFired = s.chordFired := by
  obtain ⟨-, -, -, -, htimer, hfired, -⟩ := edged_keeps (s := s) (n := n) v
  have hsame : s.changed n v = s.edged n v := by rw [State.changed, h]; rfl
  rw [acceptChange_eq, hsame]
  simpa using And.intro htimer hfired

theorem acceptChange_chord_member (v : BitVec 4) (h : s.chord.members.getLsbD n.val = true) :
    let now := v ^^^ (1#4 <<< n.val)
    (s.chord.members &&& now ≠ s.chord.members →
      (s.acceptChange n v).chordTimer = 0 ∧ (s.acceptChange n v).chordFired = false) ∧
    (s.chord.members &&& now = s.chord.members → (s.acceptChange n v).chordFired = s.chordFired ∧
      (s.acceptChange n v).chordTimer = if s.chordFired then s.chordTimer else 0) := by
  intro now
  obtain ⟨-, -, -, hchord, htimer, hfired, -⟩ := edged_keeps (s := s) (n := n) v
  have hchanged : s.changed n v = (s.edged n v).chordAfterChange v now := by rw [State.changed, if_pos h]
  have hheld (x : BitVec 4) : (s.edged n v).chordHeld x = true ↔
      s.chord.members ≠ 0 ∧ s.chord.members &&& x = s.chord.members := by rw [chordHeld_iff, hchord]
  rw [acceptChange_eq, hchanged]
  simp only [makeClaim_keeps]
  refine ⟨fun hne => chordAfterChange_released fun hx => hne ((hheld now).1 hx).2, fun heq => ?_⟩
  have hmember (x : BitVec 4) (hx : s.chord.members &&& x = s.chord.members) : x.getLsbD n.val = true := by
    have hbit := congrArg (·.getLsbD n.val) hx
    simpa only [BitVec.getLsbD_and, h, Bool.true_and] using hbit
  have hsome : s.chord.members ≠ 0 := by
    intro hzero
    rw [hzero] at h
    simp at h
  have hbefore : ¬(s.edged n v).chordHeld v = true := by
    intro hx
    have hv := hmember v ((hheld v).1 hx).2
    have hnow := hmember now heq
    rw [xor_bit_self, hv] at hnow
    cases hnow
  rw [← htimer, ← hfired]
  exact chordAfterChange_pressed ((hheld now).2 ⟨hsome, heq⟩) hbefore

theorem acceptChange_claim_held {k : InputNo} (v : BitVec 4) (h : s.eventClaim = some k) :
    (s.acceptChange n v).eventClaim = some k := by
  obtain ⟨-, -, -, -, -, hclaim, -⟩ := changed_keeps (s := s) (n := n) v
  rw [acceptChange_eq]
  exact makeClaim_held (hclaim.trans h)

/-- With no other edge to count, the claim goes to the first count from the service position on. -/
theorem acceptChange_claim_now {v : BitVec 4} (hl : s.levels = some v) (h : s.eventClaim = none)
    (hnone : ∀ m : InputNo, m ≠ n → s.edgeDue m = false) : (s.acceptChange n v).eventClaim =
      [s.servicePos, s.servicePos + 1, s.servicePos + 2, s.servicePos + 3].find? fun m =>
        (s.bindings[m]).isSome && decide (0 < (s.acceptChange n v).inputs[m].pending) := by
  obtain ⟨-, -, hb, -, hpos, hclaim, hinputs, -⟩ := changed_keeps (s := s) (n := n) v
  have hany : (List.finRange 4).any (s.changed n v).edgeDue = false := by
    rw [← Bool.not_eq_true, changed_any_edgeDue hl]
    rintro ⟨m, hm, hdue⟩
    simp [hnone m hm] at hdue
  rw [acceptChange_inputs, acceptChange_eq, makeClaim_free (hclaim.trans h), hpos]
  refine congrArg (List.find? · _) (funext fun m => ?_)
  simp only [State.claimable, State.binding, hb, hinputs, hany, Bool.and_false, Bool.not_false, Bool.and_true]

/-- While another edge of the sample is to be counted, counts new at the sample do not stand. -/
theorem acceptChange_claim_waits {v : BitVec 4} (hl : s.levels = some v) (h : s.eventClaim = none)
    (hdue : ∃ m : InputNo, m ≠ n ∧ s.edgeDue m = true)
    (hnew : ∀ m : InputNo, 0 < s.inputs[m].pending → s.newCounts.getLsbD m.val = true) :
    (s.acceptChange n v).eventClaim = none := by
  obtain ⟨-, -, -, -, -, hclaim, -⟩ := changed_keeps (s := s) (n := n) v
  rw [acceptChange_eq, makeClaim_free (hclaim.trans h), List.find?_eq_none]
  intro m _
  simp only [State.claimable, (changed_any_edgeDue hl).2 hdue, Bool.and_true, Bool.and_eq_true, Bool.not_eq_true',
    decide_eq_true_eq, not_and]
  rintro ⟨-, hpending⟩
  simp [changed_newCounts hnew m hpending]

/-- Settles O15. -/
theorem acceptedChangeCountsTheEdge : Obligations.AcceptedChangeCountsTheEdge := by
  intro n s v hactive hl hcount
  have hdue : s.settleChange n = some (s.acceptChange n v) := by
    have hchange : s.changeDue n = true := changeDue_iff n |>.2 ⟨hactive, by rw [hl]; rfl, hcount⟩
    simp only [State.settleChange, hl, hchange, if_true]
  refine ⟨_, by rw [exec_acceptedChange, hdue, finish_some], ?_⟩
  simp only [commit_keeps, acceptChange_levels, Option.some.injEq]
  refine ⟨trivial, ?_, fun m hm => ?_, fun hb => ?_, fun b hb => acceptChange_bound v hb, acceptChange_chord_other v,
    fun hm now hnow => hnow ▸ acceptChange_chord_member v hm, fun m hm => acceptChange_claim_held v hm, fun h =>
      ⟨acceptChange_claim_now hl h, acceptChange_claim_waits hl h⟩⟩
  · exact (congrArg InputState.debounceCount (acceptChange_input v n)).trans (edged_debounceCount v)
  · exact (acceptChange_input v m).trans (edged_inputs_ne v hm)
  · have hedged := edged_unbound v hb
    refine ⟨(acceptChange_input v n).trans ?_, by rw [acceptChange_flags, hedged, leveled_flags]⟩
    rw [hedged, leveled_inputs, if_pos rfl]

end Sys2Proof.Machine
end

section
/-!
SUPPORT. Stuck inputs, the chord's sweeps, and interval expiries (R125, R127, R128, R133, R143).
-/

namespace Sys2Proof.Machine

variable {s t u : State}

/-- Settles O16. -/
theorem stuckInputIsReported : Obligations.StuckInputIsReported := by
  intro n s b hactive hb hpressed hlimit htimer
  have hbinding : s.binding n = some b := hb
  have hdue : s.stuckDue n = true := by
    simp only [State.stuckDue, State.stuckTicks, hactive, hbinding, hpressed, htimer, Option.isSome_some,
      beq_self_eq_true,
      Bool.and_true, Bool.true_and, bne_iff_ne]
    omega
  have hsettle : s.settleStuck n = some (s.enterStuck n b) := by
    simp only [State.settleStuck, hbinding, hdue, if_true]
  rw [exec_eventStuck, hsettle, finish_some]
  rfl

/-- Settles O17. -/
theorem chordHandsItsSweeps : Obligations.ChordHandsItsSweeps := by
  intro s v hactive hl hmembers hheld htimer hfired hn
  have hdue : s.chordDue = true := by
    simp [State.chordDue, hactive, hl, hfired, htimer, (chordHeld_iff v).2 ⟨hmembers, hheld⟩]
  have hsettle : s.settleChord = some s.fireChord := if_pos hdue
  refine ⟨_, by rw [exec_chordFires, hsettle, finish_some], by simp [State.fireChord], by simp [State.fireChord],
    by simp [State.fireChord], ?_⟩
  have hhanded := handSweeps_requestsFor (s := { s with chordFired := true }) hn .chord (·.chordAction)
  exact hhanded

/-! ### Interval expiries -/

theorem intervalNext_of {w : WindowNo} (hactive : s.partState = .active) (hdue : s.intervalDue.getLsbD w.val = true)
    (hfirst : ∀ v : WindowNo, v < w → s.intervalDue.getLsbD v.val = false) : s.intervalNext w = true := by
  have hfind : (List.finRange 16).find? (fun v => s.intervalDue.getLsbD v.val) = some w := by
    obtain ⟨before, after, hsplit⟩ := List.append_of_mem (List.mem_finRange w)
    have hsorted := List.pairwise_lt_finRange 16
    rw [hsplit, List.pairwise_append] at hsorted
    refine List.find?_eq_some_iff_append.2 ⟨hdue, before, after, hsplit, fun v hv => ?_⟩
    simpa using hfirst v (hsorted.2.2 v hv w (by simp))
  simp only [State.intervalNext, hactive, hfind, beq_self_eq_true, decide_true, Bool.and_self]

/-- The state an expiry hands its request in: the counter loaded again and its mark taken off. -/
def State.reloaded (s : State) (w : WindowNo) : State :=
  { s.restartInterval w with intervalDue := s.intervalDue &&& ~~~(windowMask w) }

theorem reloaded_intervals {w : WindowNo} {r : WindowRecord} (h : s.inService w = some r) :
    (s.reloaded w).intervals = s.intervals.set w (s.live.interval w) := by
  simp [State.reloaded, State.restartInterval, State.loadedInterval, h]

theorem expireInterval_silent {w : WindowNo} {r : WindowRecord} (h : s.inService w = some r)
    (ha : r.intervalAction = none) : s.expireInterval w = s.reloaded w := by
  simp only [State.expireInterval, h, ha]
  rfl

theorem expireInterval_acts {w : WindowNo} {r : WindowRecord} {a : SweepAction} (h : s.inService w = some r)
    (ha : r.intervalAction = some a) : s.expireInterval w = (s.reloaded w).handSweep ⟨w, a, .interval⟩ := by
  simp only [State.expireInterval, h, ha]
  rfl

theorem handSweep_queued {q : SweepRequest} (h : s.dropsSweep q = false) :
    s.handSweep q = { s with sweepQueue := s.sweepQueue ++ [q] } := by
  rw [State.handSweep, h]
  rfl

theorem handSweep_dropped {q : SweepRequest} (h : s.dropsSweep q = true) :
    (s.handSweep q).sweepQueue = s.sweepQueue ∧ (s.handSweep q).flags.part.getLsbD 7 = true := by
  rw [State.handSweep, if_pos h]
  refine ⟨by simp, report_part _ _ _ _ _ 7 ?_⟩
  simp [PartFlag.bit]

/-- Settles O18. -/
theorem intervalExpiryReloadsAndHands : Obligations.IntervalExpiryReloadsAndHands := by
  intro w s r hactive hservice hdue hfirst
  have hsettle : s.settleInterval w = some (s.expireInterval w) := if_pos (intervalNext_of hactive hdue hfirst)
  refine ⟨_, by rw [exec_intervalExpiry, hsettle, finish_some], ?_⟩
  simp only [commit_keeps]
  cases ha : r.intervalAction with
  | none =>
    rw [expireInterval_silent hservice ha]
    exact ⟨reloaded_intervals hservice, rfl, rfl, fun _ => ⟨rfl, rfl⟩, fun a h => nomatch h⟩
  | some a =>
    rw [expireInterval_acts hservice ha]
    have hsame : (s.reloaded w).dropsSweep ⟨w, a, .interval⟩ =
        (s.sweepQueue.any (fun p => p.window == w) || decide (16 ≤ s.sweepQueue.length)) := rfl
    refine ⟨by simpa using reloaded_intervals hservice, by simp [State.reloaded], by simp [State.reloaded],
      fun h => (nomatch h), fun a' ha' => ?_⟩
    cases ha'
    refine ⟨fun hqueued => ?_, fun hdropped => ?_⟩
    · rw [handSweep_queued (hsame.trans hqueued)]
      exact ⟨rfl, rfl⟩
    · exact handSweep_dropped (hsame.trans hdropped)

end Sys2Proof.Machine
end

section
/-!
SUPPORT. Outcomes of downstream requests: the fault reported, and what each origin is told (R26, R28, R29, R81 to R83,
R140, R164).
-/

namespace Sys2Proof.Machine

variable {s t u : State} {o : Outcome}

/-! ### A fault reported -/

/-- A fault: its flag and its one incident. -/
def State.faulted (s : State) (c : Cause) (w : Option WindowNo) (l : LineAddr) (detail : BitVec 32) : State :=
  (s.setPartFlag c.flag).report c.kind w (byteAddr l) detail

theorem faulted_part (c : Cause) (w : Option WindowNo) (l : LineAddr) (detail : BitVec 32) :
    (s.faulted c w l detail).flags.part.getLsbD c.flag.bit = true := by
  refine report_part _ _ _ _ _ _ ?_
  simp

/-- In WRAP with an empty queue an incident is recorded at once (R163). -/
theorem report_logQueue (hformed : s.bootStage = .formed) (hwrap : s.logStyle = .wrap) (hempty : s.logQueue = [])
    (k : IncidentKind) (w : Option WindowNo) (a : ByteAddr) (detail : BitVec 32) :
    (s.report k w a detail).logQueue = [.record s.logNext ⟨k, w, s.tick, a, detail⟩] := by
  rw [report_of_formed hformed, takeIncident_of_recording _ (.inl hwrap), if_neg (by simp [hempty]), hempty]
  rfl

theorem faulted_logQueue (hformed : s.bootStage = .formed) (hwrap : s.logStyle = .wrap) (hempty : s.logQueue = [])
    (c : Cause) (w : Option WindowNo) (l : LineAddr) (detail : BitVec 32) :
    (s.faulted c w l detail).logQueue = [.record s.logNext ⟨c.kind, w, s.tick, byteAddr l, detail⟩] := by
  have h := report_logQueue (s := s.setPartFlag c.flag) (by simpa using hformed) (by simpa using hwrap)
    (by simpa using hempty) c.kind w (byteAddr l) detail
  simpa [State.faulted] using h

/-! ### Failed outcomes -/

theorem reportOutcome_failed (ho : o.isOkay = false) (w : Option WindowNo) (rec : TagRecord) :
    s.reportOutcome w rec o = s.faulted o.cause w rec.line rec.origin.code := by
  rw [State.reportOutcome, ho]
  rfl

theorem reportOutcome_okay (data : Line) (w : Option WindowNo) (rec : TagRecord) :
    s.reportOutcome w rec (.okay data) = s := rfl

theorem passAnswer_failed (ho : o.isOkay = false) (tag : UpTag) (isWrite : Bool) :
    s.passAnswer tag isWrite o = s.answer tag (if o = .refused then .refused else .fault) none := by
  cases o with
  | okay => contradiction
  | refused | fault | expired => rfl

theorem fetchEnded_failed {i : Fin 12} {h : Hold} {q : List Item} {d : DownTag} (he : s.entries[i] = .fetching h q d)
    (ho : o.isOkay = false) : s.fetchEnded i o = s.fetchFault i h q o.cause := by
  cases o with
  | okay => contradiction
  | refused | fault | expired =>
    simp only [State.fetchEnded, he]
    cases s.record h.window <;> rfl

theorem writebackEnded_failed {i : Fin 12} {h : Hold} {copy : Line} {image : Option Line} {mark dirty : Bool}
    {sent : Line} {d : DownTag} (he : s.entries[i] = .writing h copy image mark dirty sent d) (ho : o.isOkay = false) :
    s.writebackEnded i o = ((s.setEntry i (if dirty then .wbWait h copy image false else .free)).faulted o.cause
      (some h.window) h.line 3).releaseOutcome mark false := by
  cases o with
  | okay => contradiction
  | refused | fault | expired =>
    simp only [State.writebackEnded, he]
    rfl

theorem statusWritebackEnded_failed (ho : o.isOkay = false) : s.statusWritebackEnded o =
    { s with statusEntry := s.statusEntry.ended false, statusWritten := true }.faulted o.cause none
      (s.controlLine 0) 3 := by
  simp only [State.statusWritebackEnded, ho]
  rfl

theorem commandWritebackEnded_failed (ho : o.isOkay = false) : s.commandWritebackEnded o =
    { s with commandEntry := s.commandEntry.ended false, commandWritten := true }.faulted o.cause none
      (s.controlLine 1) 3 := by
  simp only [State.commandWritebackEnded, ho]
  rfl

theorem logWriteEnded_failed (ho : o.isOkay = false) :
    s.logWriteEnded o = (s.setPartFlag o.cause.flag).setPartFlag .logDropped := by
  rw [State.logWriteEnded, ho]
  rfl

theorem slot_failed (ho : o.isOkay = false) : o.slot = .failed := by
  cases o with
  | okay => contradiction
  | refused | fault | expired => rfl

/-! ### The queue of a failed fetch (R82, R83) -/

/-- The answers a queue's reads get where its fetch fails. -/
def faultAnswers (q : List Item) : List UpResponse :=
  q.filterMap fun x => match x with
    | .read tag => some ⟨tag, .fault, none⟩
    | _ => none

theorem disposeItem_responses (x : Item) : (s.disposeItem x).responses = s.responses ++ faultAnswers [x] := by
  cases x with
  | read tag => rfl
  | update | sweep => simp [State.disposeItem, faultAnswers]

theorem foldl_disposeItem_responses (q : List Item) :
    (q.foldl State.disposeItem s).responses = s.responses ++ faultAnswers q := by
  induction q generalizing s with
  | nil => simp [faultAnswers]
  | cons x q ih =>
    have hcons : faultAnswers (x :: q) = faultAnswers [x] ++ faultAnswers q :=
      List.filterMap_append (l := [x]) (l' := q)
    rw [List.foldl_cons, ih, disposeItem_responses, hcons, List.append_assoc]

theorem disposeItem_outstanding_subset (x : Item) {tag : UpTag} (h : tag ∈ (s.disposeItem x).outstanding) :
    tag ∈ s.outstanding := by
  cases x with
  | update => exact h
  | read => exact List.mem_of_mem_filter h
  | sweep => simpa [State.disposeItem] using h

theorem foldl_disposeItem_outstanding_subset (q : List Item) {tag : UpTag}
    (h : tag ∈ (q.foldl State.disposeItem s).outstanding) : tag ∈ s.outstanding := by
  induction q generalizing s with
  | nil => exact h
  | cons x q ih => exact disposeItem_outstanding_subset x (ih h)

theorem foldl_disposeItem_answered {q : List Item} {tag : UpTag} (hq : .read tag ∈ q) :
    tag ∉ (q.foldl State.disposeItem s).outstanding := by
  induction q generalizing s with
  | nil => cases hq
  | cons x q ih =>
    rw [List.foldl_cons]
    rcases List.mem_cons.1 hq with hx | hq
    · subst hx
      intro h
      have hmem := foldl_disposeItem_outstanding_subset q h
      simp [State.disposeItem, State.answer] at hmem
    · exact ih hq

/-- The state after a queue is disposed of and its entry freed. -/
def State.disposed (s : State) (i : Fin 12) (q : List Item) : State := (q.foldl State.disposeItem s).setEntry i .free

theorem fetchFault_eq {i : Fin 12} {h : Hold} {q : List Item} {c : Cause} (hc : c ≠ .mismatch) :
    s.fetchFault i h q c = (s.disposed i q).faulted c (some h.window) h.line (BitVec.ofNat 32 (updateCount q)) := by
  rw [State.fetchFault]
  exact if_neg hc

theorem fetchFault_mismatch {i : Fin 12} {h : Hold} {q : List Item} : s.fetchFault i h q .mismatch =
    ((s.disposed i q).faulted .mismatch (some h.window) h.line (BitVec.ofNat 32 (updateCount q))).listSuspect h := rfl

/-! ### Shadow answers (R140) -/

theorem shadowAnswered_of {d : DownTag} {target : ShadowTarget} {sw : Sweep} (hs : s.engine = some sw)
    (hi : (d, target) ∈ sw.issued) (ok : Bool) :
    s.shadowAnswered d target ok = { s with engine := some (sw.answered d target ok) } := by
  have hany : sw.issued.any (fun p => p.1 == d) = true := List.any_eq_true.2 ⟨_, hi, beq_self_eq_true d⟩
  simp only [State.shadowAnswered, hs, hany, if_true]

/-! ### Expiry (R26) -/

section

variable {d : DownTag} {rec : TagRecord}

theorem deliver_pass {tag : UpTag} (h : rec.origin = .pass tag) :
    s.deliver d rec o = (s.reportOutcome none rec o).passAnswer tag rec.isWrite o := by
  simp only [State.deliver, h]

theorem deliver_fetch {i : Fin 12} (h : rec.origin = .fetch i) : s.deliver d rec o = s.fetchEnded i o := by
  simp only [State.deliver, h]

theorem deliver_writeback {i : Fin 12} (h : rec.origin = .writeback (.general i)) :
    s.deliver d rec o = s.writebackEnded i o := by
  simp only [State.deliver, h]

theorem deliver_status (h : rec.origin = .writeback .status) : s.deliver d rec o = s.statusWritebackEnded o := by
  simp only [State.deliver, h]

theorem deliver_command (h : rec.origin = .writeback .command) : s.deliver d rec o = s.commandWritebackEnded o := by
  simp only [State.deliver, h]

theorem deliver_shadow {w : WindowNo} {target : ShadowTarget} (h : rec.origin = .shadow w target) :
    s.deliver d rec o = (s.reportOutcome (some w) rec o).shadowAnswered d target o.isOkay := by
  simp only [State.deliver, h]

theorem deliver_log {n : BitVec 16} (h : rec.origin = .log n) : s.deliver d rec o = s.logWriteEnded o := by
  simp only [State.deliver, h]

theorem deliver_setup {k : Fin 42} (h : rec.origin = .setup k) : s.deliver d rec o =
    { s.reportOutcome none rec o with setup := (s.reportOutcome none rec o).setup.set k o.slot } := by
  simp only [State.deliver, h]

end

end Sys2Proof.Machine
end

section
/-!
SUPPORT. The expiry of an outstanding request (R26, R28, R29, R81, R82, R87, R140, R164).
-/

namespace Sys2Proof.Machine

variable {s t u : State} {d : DownTag} {rec : TagRecord}

/-- One incident is recorded where the log is in WRAP, formed and empty. -/
def State.Recorded (s t : State) (i : Incident) : Prop :=
  s.bootStage = .formed → s.logStyle = .wrap → s.logQueue = [] → t.logQueue = [.record s.logNext i]

theorem faulted_recorded (c : Cause) (w : Option WindowNo) (l : LineAddr) (detail : BitVec 32) :
    s.Recorded (s.faulted c w l detail) ⟨c.kind, w, s.tick, byteAddr l, detail⟩ :=
  fun hformed hwrap hempty => faulted_logQueue hformed hwrap hempty c w l detail

/-- What the record of an incident reads of the state. -/
theorem State.Recorded.congr {s' t' : State} {i : Incident} (h : s.Recorded t i) (hb : s'.bootStage = s.bootStage)
    (hstyle : s'.logStyle = s.logStyle) (hq : s'.logQueue = s.logQueue) (hn : s'.logNext = s.logNext)
    (ht : t'.logQueue = t.logQueue) : s'.Recorded t' i := by
  intro hformed hwrap hempty
  rw [ht, hn]
  exact h (hb ▸ hformed) (hstyle ▸ hwrap) (hq ▸ hempty)

/-- The tag a request expires with is RETIRED, and what the expiry leaves alone. -/
theorem exec_requestExpiry_of (hd : s.tags[d] = .outstanding rec) (he : rec.expired = true) :
    exec (.requestExpiry d) s = .next (s.commit ((s.setTag d .retired).deliver d rec .expired)) := by
  rw [exec_requestExpiry, expire_of_expired hd he, finish_some]

/-! ### Each origin -/

theorem deliver_pass_expired {tag : UpTag} (h : rec.origin = .pass tag) : s.deliver d rec .expired =
    (s.faulted .timeout none rec.line 1).answer tag .fault none := by
  rw [deliver_pass h, reportOutcome_failed rfl, h]
  rfl

theorem deliver_fetch_expired {i : Fin 12} {h : Hold} {q : List Item} (ho : rec.origin = .fetch i)
    (he : s.entries[i] = .fetching h q d) : s.deliver d rec .expired =
      (s.disposed i q).faulted .timeout (some h.window) h.line (BitVec.ofNat 32 (updateCount q)) := by
  rw [deliver_fetch ho, fetchEnded_failed he rfl, fetchFault_eq (by simp [Outcome.cause])]
  rfl

theorem deliver_writeback_expired {i : Fin 12} {h : Hold} {copy : Line} {image : Option Line} {mark dirty : Bool}
    {sent : Line} (ho : rec.origin = .writeback (.general i))
    (he : s.entries[i] = .writing h copy image mark dirty sent d) : s.deliver d rec .expired =
      ((s.setEntry i (if dirty then .wbWait h copy image false else .free)).faulted .timeout (some h.window) h.line
        3).releaseOutcome mark false := by
  rw [deliver_writeback ho, writebackEnded_failed he rfl]
  rfl

theorem deliver_status_expired (ho : rec.origin = .writeback .status) : s.deliver d rec .expired =
    { s with statusEntry := s.statusEntry.ended false, statusWritten := true }.faulted .timeout none
      (s.controlLine 0) 3 := by
  rw [deliver_status ho, statusWritebackEnded_failed rfl]
  rfl

theorem deliver_command_expired (ho : rec.origin = .writeback .command) : s.deliver d rec .expired =
    { s with commandEntry := s.commandEntry.ended false, commandWritten := true }.faulted .timeout none
      (s.controlLine 1) 3 := by
  rw [deliver_command ho, commandWritebackEnded_failed rfl]
  rfl

theorem deliver_shadow_expired {w : WindowNo} {target : ShadowTarget} (ho : rec.origin = .shadow w target) :
    s.deliver d rec .expired = (s.faulted .timeout (some w) rec.line 4).shadowAnswered d target false := by
  rw [deliver_shadow ho, reportOutcome_failed rfl, ho]
  rfl

theorem deliver_log_expired {n : BitVec 16} (ho : rec.origin = .log n) :
    s.deliver d rec .expired = (s.setPartFlag .memoryTimeout).setPartFlag .logDropped := by
  rw [deliver_log ho, logWriteEnded_failed rfl]
  rfl

theorem deliver_setup_expired {k : Fin 42} (ho : rec.origin = .setup k) : s.deliver d rec .expired =
    { s.faulted .timeout none rec.line 6 with setup := s.setup.set k .failed } := by
  rw [deliver_setup ho, reportOutcome_failed rfl, ho]
  simp only [State.faulted, report_keeps, setPartFlag_keeps]
  rfl

/-! ### Together -/

/-- A request still awaited by its entry finds it as the entry was granted. -/
theorem awaited_fetch {i : Fin 12} (h : s.awaited d (.fetch i) = true) : ∃ k q, s.entries[i] = .fetching k q d := by
  unfold State.awaited at h
  split at h
  · rename_i hj
    cases hj
    split at h
    · rw [beq_iff_eq] at h
      subst h
      exact ⟨_, _, ‹_›⟩
    · cases h
  · rename_i hj
    cases hj
  · rename_i hne _
    exact absurd rfl (hne i)

theorem awaited_writeback {i : Fin 12} (h : s.awaited d (.writeback (.general i)) = true) :
    ∃ k copy image mark dirty sent, s.entries[i] = .writing k copy image mark dirty sent d := by
  unfold State.awaited at h
  split at h
  · rename_i hj
    cases hj
  · rename_i hj
    cases hj
    split at h
    · rw [beq_iff_eq] at h
      subst h
      exact ⟨_, _, _, _, _, _, ‹_›⟩
    · cases h
  · rename_i _ hne
    exact absurd rfl (hne i)

/-- An expiry sets MEMORY_TIMEOUT and lists no line (R26, R28). -/
theorem deliver_expired_flag (ha : s.awaited d rec.origin = true) :
    (s.deliver d rec .expired).flags.part.getLsbD 3 = true ∧ (s.deliver d rec .expired).suspects = s.suspects := by
  have hfault (u : State) (w : Option WindowNo) (l : LineAddr) (detail : BitVec 32) :
      (u.faulted .timeout w l detail).flags.part.getLsbD 3 = true := faulted_part .timeout w l detail
  cases ho : rec.origin with
  | pass tag =>
    rw [deliver_pass_expired ho]
    exact ⟨hfault _ _ _ _, by simp [State.faulted]⟩
  | fetch i =>
    obtain ⟨h, q, he⟩ := awaited_fetch (ho ▸ ha)
    rw [deliver_fetch_expired ho he]
    exact ⟨hfault _ _ _ _, by simp [State.faulted, State.disposed]⟩
  | writeback target =>
    cases target with
    | status =>
      rw [deliver_status_expired ho]
      exact ⟨hfault _ _ _ _, by simp [State.faulted]⟩
    | command =>
      rw [deliver_command_expired ho]
      exact ⟨hfault _ _ _ _, by simp [State.faulted]⟩
    | general i =>
      obtain ⟨h, copy, image, mark, dirty, sent, he⟩ := awaited_writeback (ho ▸ ha)
      rw [deliver_writeback_expired ho he]
      refine ⟨?_, by simp [State.faulted]⟩
      cases mark with
      | false => exact hfault _ _ _ _
      | true =>
        exact ((flagsStand_closedUnderUpdates _).completeCommand _ (.refl _)).part (hfault _ (some h.window) h.line 3)
  | shadow w target =>
    rw [deliver_shadow_expired ho]
    exact ⟨((flagsStand_closedUnderUpdates _).shadowAnswered d target false (.refl _)).part
      (hfault s (some w) rec.line 4), by simp [State.faulted]⟩
  | log n =>
    rw [deliver_log_expired ho]
    simp [PartFlag.bit]
  | setup k =>
    rw [deliver_setup_expired ho]
    exact ⟨hfault _ _ _ _, by simp [State.faulted]⟩

/-- A pass-through request is answered FAULT (R16). -/
theorem expired_pass {tag : UpTag} (ho : rec.origin = .pass tag) :
    s.Recorded (s.deliver d rec .expired) ⟨.memoryTimeout, none, s.tick, byteAddr rec.line, 1⟩ ∧
    (s.deliver d rec .expired).responses = s.responses ++ [⟨tag, .fault, none⟩] ∧
    tag ∉ (s.deliver d rec .expired).outstanding := by
  rw [deliver_pass_expired ho]
  refine ⟨faulted_recorded .timeout none rec.line 1, ?_, ?_⟩
  · simp [State.answer, State.respond, State.faulted]
  · simp [State.answer]

/-- A fetch ends in a fault (R82, R83). -/
theorem expired_fetch {i : Fin 12} {h : Hold} {q : List Item} (ho : rec.origin = .fetch i)
    (he : s.entries[i] = .fetching h q d) :
    (s.deliver d rec .expired).entries = s.entries.set i .free ∧
    (s.deliver d rec .expired).responses = s.responses ++ faultAnswers q ∧
    s.Recorded (s.deliver d rec .expired)
      ⟨.memoryTimeout, some h.window, s.tick, byteAddr h.line, BitVec.ofNat 32 (updateCount q)⟩ := by
  rw [deliver_fetch_expired ho he]
  refine ⟨?_, ?_, ?_⟩
  · simp [State.faulted, State.disposed, State.setEntry]
  · simp [State.faulted, State.disposed, foldl_disposeItem_responses]
  · have hrec := faulted_recorded (s := s.disposed i q) .timeout (some h.window) h.line
      (BitVec.ofNat 32 (updateCount q))
    have htick : (s.disposed i q).tick = s.tick := by simp [State.disposed]
    rw [htick] at hrec
    exact hrec.congr (by simp [State.disposed]) (by simp [State.disposed]) (by simp [State.disposed])
      (by simp [State.disposed]) rfl

/-- A general write-back fails: the image stays, and a repair completes its RELEASE (R81, R85). -/
theorem expired_writeback {i : Fin 12} {h : Hold} {copy : Line} {image : Option Line} {mark dirty : Bool} {sent : Line}
    (ho : rec.origin = .writeback (.general i)) (he : s.entries[i] = .writing h copy image mark dirty sent d) :
    (s.deliver d rec .expired).entries = s.entries.set i (if dirty then .wbWait h copy image false else .free) ∧
    s.Recorded (s.deliver d rec .expired) ⟨.memoryTimeout, some h.window, s.tick, byteAddr h.line, 3⟩ ∧
    (s.deliver d rec .expired).command =
      if mark then { s.command with result := .memoryFault, state := .done } else s.command := by
  rw [deliver_writeback_expired ho he]
  generalize hu : s.setEntry i (if dirty then .wbWait h copy image false else .free) = u
  have hentries : u.entries = s.entries.set i (if dirty then .wbWait h copy image false else .free) := by rw [← hu]; rfl
  have hrec : s.Recorded (u.faulted .timeout (some h.window) h.line 3)
      ⟨.memoryTimeout, some h.window, s.tick, byteAddr h.line, 3⟩ := by
    rw [← hu]
    exact faulted_recorded (s := s.setEntry i _) .timeout (some h.window) h.line 3
  have hcommand : u.command = s.command := by rw [← hu]; rfl
  refine ⟨?_, hrec.congr rfl rfl rfl rfl (by simp), ?_⟩
  · simpa [State.faulted] using hentries
  · cases mark
    · simpa [State.releaseOutcome, State.faulted] using hcommand
    · simp [State.releaseOutcome, completeCommand_eq, State.faulted, hcommand]

/-- The entry of a pinned line after a failed write-back, where its copy changed while it was written. -/
theorem PinnedEntry.ended_dirty (image : Option Line) (sent : Line) (d : DownTag) :
    (PinnedEntry.writing image true sent d).ended false = .wbWait image := rfl

theorem expired_status {image : Option Line} {dirty : Bool} {sent : Line} (ho : rec.origin = .writeback .status)
    (he : s.statusEntry = .writing image dirty sent d) :
    s.Recorded (s.deliver d rec .expired) ⟨.memoryTimeout, none, s.tick, byteAddr (s.controlLine 0), 3⟩ ∧
    (s.deliver d rec .expired).statusWritten = true ∧
    (dirty = true → (s.deliver d rec .expired).statusEntry = .wbWait image) := by
  rw [deliver_status_expired ho]
  refine ⟨faulted_recorded (s := { s with statusEntry := s.statusEntry.ended false, statusWritten := true })
    .timeout none (s.controlLine 0) 3, by simp [State.faulted], fun hdirty => ?_⟩
  subst hdirty
  simp [State.faulted, he, PinnedEntry.ended_dirty]

theorem expired_command {image : Option Line} {dirty : Bool} {sent : Line} (ho : rec.origin = .writeback .command)
    (he : s.commandEntry = .writing image dirty sent d) :
    s.Recorded (s.deliver d rec .expired) ⟨.memoryTimeout, none, s.tick, byteAddr (s.controlLine 1), 3⟩ ∧
    (s.deliver d rec .expired).commandWritten = true ∧
    (dirty = true → (s.deliver d rec .expired).commandEntry = .wbWait image) := by
  rw [deliver_command_expired ho]
  refine ⟨faulted_recorded (s := { s with commandEntry := s.commandEntry.ended false, commandWritten := true })
    .timeout none (s.controlLine 1) 3, by simp [State.faulted], fun hdirty => ?_⟩
  subst hdirty
  simp [State.faulted, he, PinnedEntry.ended_dirty]

/-- The record of a sweep after a shadow write of it failed (R140). -/
theorem Sweep.answered_failed (sw : Sweep) (target : ShadowTarget) : sw.answered d target false =
    let left := sw.issued.filter fun p => p.1 != d
    match target with
    | .line _ => { sw with issued := left, failed := sw.failed + 1 }
    | .opening => { sw with issued := left, headerFailed := true }
    | .ending => { sw with issued := left, endHeader := .answered true } := by
  cases target <;> simp [Sweep.answered]

theorem expired_shadow {w : WindowNo} {target : ShadowTarget} {sw : Sweep} (ho : rec.origin = .shadow w target)
    (hs : s.engine = some sw) (hi : (d, target) ∈ sw.issued) :
    s.Recorded (s.deliver d rec .expired) ⟨.memoryTimeout, some w, s.tick, byteAddr rec.line, 4⟩ ∧
    (s.deliver d rec .expired).engine = some (sw.answered d target false) := by
  rw [deliver_shadow_expired ho, shadowAnswered_of (sw := sw) (by simpa [State.faulted] using hs) hi]
  exact ⟨faulted_recorded .timeout (some w) rec.line 4, rfl⟩

theorem expired_setup {k : Fin 42} (ho : rec.origin = .setup k) :
    s.Recorded (s.deliver d rec .expired) ⟨.memoryTimeout, none, s.tick, byteAddr rec.line, 6⟩ ∧
    (s.deliver d rec .expired).setup = s.setup.set k .failed := by
  rw [deliver_setup_expired ho]
  exact ⟨faulted_recorded .timeout none rec.line 6, rfl⟩

/-- A pinned entry that waits stays as it is at the step's end. -/
theorem commit_statusEntry_wbWait {image : Option Line} (h : u.statusEntry = .wbWait image) :
    (s.commit u).statusEntry = .wbWait image := by
  rw [commit_statusEntry, h]
  rfl

theorem commit_commandEntry_wbWait {image : Option Line} (h : u.commandEntry = .wbWait image) :
    (s.commit u).commandEntry = .wbWait image := by
  rw [commit_commandEntry, h]
  rfl

/-- Settles O19. -/
theorem expiryRetiresTheTag : Obligations.ExpiryRetiresTheTag := by
  intro d s rec hd he ha
  obtain ⟨hflag, hsuspects⟩ := deliver_expired_flag (s := s.setTag d .retired) (d := d) (rec := rec) ha
  refine ⟨_, exec_requestExpiry_of hd he, ?_⟩
  simp only [commit_keeps, deliver_keeps]
  refine ⟨rfl, hflag, rfl, rfl, hsuspects, fun tag ho => expired_pass (s := s.setTag d .retired) ho,
    fun i h q ho hi => expired_fetch (s := s.setTag d .retired) ho hi,
    fun i h copy image mark dirty sent ho hi => expired_writeback (s := s.setTag d .retired) ho hi,
    fun image dirty sent ho hi => ?_, fun image dirty sent ho hi => ?_, fun w target sw ho hs hi => ?_, fun n ho => ?_,
    fun k ho => expired_setup (s := s.setTag d .retired) ho⟩
  · obtain ⟨hrec, hwritten, hdirty⟩ := expired_status (s := s.setTag d .retired) ho hi
    exact ⟨hrec, hwritten, fun h => commit_statusEntry_wbWait (hdirty h)⟩
  · obtain ⟨hrec, hwritten, hdirty⟩ := expired_command (s := s.setTag d .retired) ho hi
    exact ⟨hrec, hwritten, fun h => commit_commandEntry_wbWait (hdirty h)⟩
  · obtain ⟨hrec, hengine⟩ := expired_shadow (s := s.setTag d .retired) ho hs hi
    rw [Sweep.answered_failed] at hengine
    exact ⟨hrec, hengine⟩
  · rw [deliver_log_expired ho]
    exact ⟨rfl, rfl, rfl, rfl⟩

end Sys2Proof.Machine
end

section
/-!
SUPPORT. Memory's responses and the signals (R1, R16, R20, R28, R29, R75 to R87, R140, R164, R176).
-/

namespace Sys2Proof.Machine

variable {s t u : State} {d : DownTag} {rec : TagRecord} {data : Line} {code : BitVec 2}

/-! ### What a response carries (R176) -/

theorem outcomeOf_okay (d : DownTag) (data : Line) : outcomeOf ⟨d, 0, data⟩ = .okay data := rfl

theorem outcomeOf_failed (hcode : code ≠ 0) : outcomeOf ⟨d, code, data⟩ = if code = 1 then .refused else .fault := by
  simp only [outcomeOf, Result.ofCode, if_neg hcode]
  by_cases h : code = 1
  · rw [if_pos h, if_pos h]
  · rw [if_neg h, if_neg h]

theorem outcomeOf_failed_isOkay (hcode : code ≠ 0) : (outcomeOf ⟨d, code, data⟩).isOkay = false := by
  rw [outcomeOf_failed hcode]
  split <;> rfl

theorem outcomeOf_failed_cause (hcode : code ≠ 0) : (outcomeOf ⟨d, code, data⟩).cause = .memory := by
  rw [outcomeOf_failed hcode]
  split <;> rfl

theorem takeResponse_outstanding (hb : s.bootStage ≠ .inReset) (ht : s.tags[d] = .outstanding rec) :
    s.takeResponse ⟨d, code, data⟩ = some ((s.setTag d .free).deliver d rec (outcomeOf ⟨d, code, data⟩)) := by
  rw [State.takeResponse, if_neg hb]
  simp only [ht]

/-! ### The signals (R1, R20, R176) -/

/-- Settles O46. -/
theorem signalsMoveAndLateResponsesEnd : Obligations.SignalsMoveAndLateResponsesEnd := by
  intro s
  refine ⟨fun x rest h => ?_, fun hb => ⟨fun x rest h => ?_, fun rsp => ⟨fun hretired => ?_, fun hfree => ?_⟩⟩⟩
  · rw [exec_downstreamRequestTaken, State.presentNext, h]
    rfl
  · obtain ⟨tag, result, data⟩ := x
    rw [exec_responseSent, if_neg hb, State.sendResponse, h]
    cases result <;> rfl
  · rw [exec_lateResponse, State.takeResponse, if_neg hb]
    simp only [hretired]
    rfl
  · rw [exec_lateResponse, State.takeResponse, if_neg hb]
    simp only [hfree]
    rfl

/-! ### Pass-through requests (R16) -/

/-- A fault does not read the tags. -/
theorem faulted_with_tags (x : Vector TagState 32) (c : Cause) (w : Option WindowNo) (l : LineAddr)
    (detail : BitVec 32) :
    ({ s with tags := x } : State).faulted c w l detail = { s.faulted c w l detail with tags := x } :=
  report_with_tags (s := s.setPartFlag c.flag) c.kind w (byteAddr l) detail x

/-- Settles O47. -/
theorem passResponseIsForwarded : Obligations.PassResponseIsForwarded := by
  intro d data s rec tag hb ht ho u failed
  refine ⟨?_, fun code hcode => ?_⟩
  · rw [exec_passResponse, takeResponse_outstanding hb ht, outcomeOf_okay, deliver_pass ho, reportOutcome_okay,
      finish_some]
    rfl
  · have hfailed := outcomeOf_failed_isOkay (d := d) (data := data) hcode
    have hrefused : outcomeOf ⟨d, code, data⟩ = .refused ↔ code = 1 := by
      rw [outcomeOf_failed hcode]
      split <;> simp_all
    have hfault : (s.setTag d .free).faulted .memory none rec.line 1 = { failed with tags := s.tags.set d .free } :=
      faulted_with_tags ..
    rw [exec_passResponse, takeResponse_outstanding hb ht, deliver_pass ho, reportOutcome_failed hfailed,
      outcomeOf_failed_cause hcode, passAnswer_failed hfailed, finish_some, ho]
    simp only [hrefused]
    have horigin : (Origin.pass tag).code = 1 := rfl
    rw [horigin, hfault, State.answer, State.respond]
    have hresponses : failed.responses = s.responses := by simp [failed]
    have houtstanding : failed.outstanding = s.outstanding := by simp [failed]
    simp only [hresponses, houtstanding]

/-! ### Items of a sweep (R138, R142) -/

section

variable {sw : Sweep} {r p : WindowRecord}

theorem resolveItem_of (hs : s.engine = some sw) (hp : s.record sw.window = some p) (n : Nat) (x : Resolution) :
    s.resolveItem n x = s.advanceSweep (sw.resolved p s.boot.polynomial n x) p := by
  simp only [State.resolveItem, hs, hp]

theorem advanceSweep_next (ha : sw.abandoning = false) (hn : sw.nextIndex < p.length) :
    s.advanceSweep sw p = { s with engine := some { sw with inFlight := .claimWaiting } } := by
  rw [State.advanceSweep, ha, if_neg Bool.false_ne_true, if_pos hn]

theorem advanceSweep_closing (ha : sw.abandoning = false) (hn : ¬sw.nextIndex < p.length) (hc : sw.action ≠ .clear) :
    s.advanceSweep sw p = { s with engine := some { sw with phase := .closing } } := by
  rw [State.advanceSweep, ha, if_neg Bool.false_ne_true, if_neg hn, if_neg hc]

theorem advanceSweep_clear (ha : sw.abandoning = false) (hn : ¬sw.nextIndex < p.length) (hc : sw.action = .clear) :
    s.advanceSweep sw p =
      ({ s with engine := none }.setSweepDone sw.window).setPartFlagIf (decide (0 < sw.failed)) .sweepFault := by
  rw [State.advanceSweep, ha, if_neg Bool.false_ne_true, if_neg hn, if_pos hc]

/-- A copied line: its shadow write is produced, and the next line's claim or CLOSING follows. -/
theorem resolveItem_handed (hs : s.engine = some sw) (hp : s.record sw.window = some p) (ha : sw.abandoning = false)
    (hc : sw.action ≠ .clear) (k : Nat) (copy : Line) :
    let moved := { sw with nextIndex := sw.nextIndex + 1, inFlight := .claimWaiting }
    let written := { moved with
      waiting := sw.waiting ++ [⟨.line k, p.shadowBase + BitVec.ofNat 28 (k + 1), p.fillHeld s.boot.polynomial copy⟩] }
    s.resolveItem k (.handed copy) = { s with
      engine := some (if sw.nextIndex + 1 < p.length then written
        else { written with inFlight := .none, phase := .closing }) } := by
  intro moved written
  have hresolved : sw.resolved p s.boot.polynomial k (.handed copy) = { written with inFlight := .none } := by
    rw [Sweep.resolved]
    exact if_neg (by simp [ha])
  rw [resolveItem_of hs hp, hresolved]
  by_cases hn : sw.nextIndex + 1 < p.length
  · rw [if_pos hn]
    exact advanceSweep_next ha hn
  · rw [if_neg hn]
    exact advanceSweep_closing ha hn hc

/-- A cleared line of a CLEAR sweep: the next line's claim follows, or the sweep closes. -/
theorem resolveItem_cleared (hs : s.engine = some sw) (hp : s.record sw.window = some p) (ha : sw.abandoning = false)
    (hc : sw.action = .clear) (k : Nat) : s.resolveItem k .cleared =
      if sw.nextIndex + 1 < p.length
      then { s with engine := some { sw with nextIndex := sw.nextIndex + 1, inFlight := .claimWaiting } }
      else { s with
        engine := none
        flags := { s.flags with
          sweepDone := s.flags.sweepDone ||| (1#16 <<< sw.window.val)
          part := if 0 < sw.failed then s.flags.part ||| 0x100 else s.flags.part } } := by
  rw [resolveItem_of hs hp]
  by_cases hn : sw.nextIndex + 1 < p.length
  · rw [if_pos hn]
    exact advanceSweep_next (sw := sw.resolved p s.boot.polynomial k .cleared) ha hn
  · rw [if_neg hn, advanceSweep_clear (sw := sw.resolved p s.boot.polynomial k .cleared) ha hn hc]
    by_cases hf : 0 < sw.failed
    · have hon : decide (0 < (sw.resolved p s.boot.polynomial k .cleared).failed) = true := decide_eq_true hf
      rw [hon, if_pos hf]
      rfl
    · have hoff : decide (0 < (sw.resolved p s.boot.polynomial k .cleared).failed) = false := decide_eq_false hf
      rw [hoff, if_neg hf]
      rfl

end

theorem applyItem_sweep {h : Hold} {r : WindowRecord} (hr : s.record h.window = some r) (a : SweepAction)
    (n : BitVec 16) (k : Nat) (copy : Line) :
    s.applyItem h (.sweep a n k) copy = s.applySweep r a k copy := by
  simp only [State.applyItem, hr]

theorem applyItem_read {h : Hold} {r : WindowRecord} (hr : s.record h.window = some r) (tag : UpTag) (copy : Line) :
    s.applyItem h (.read tag) copy = s.applyRead r tag copy := by
  simp only [State.applyItem, hr]

theorem applyItem_update {h : Hold} {r : WindowRecord} (hr : s.record h.window = some r) (o : UpdateOrigin)
    (x : Line) (lanes : BitVec 8) (copy : Line) :
    s.applyItem h (.update o x lanes) copy = s.applyUpdate h r o x lanes copy := by
  simp only [State.applyItem, hr]

theorem applyItems_cons (h : Hold) (x : Item) (q : List Item) (copy : Line) : s.applyItems h (x :: q) copy =
    (s.applyItem h x copy).2.applyItems h q (s.applyItem h x copy).1 := rfl

theorem applyItems_nil (h : Hold) (copy : Line) : s.applyItems h [] copy = (copy, s) := rfl

/-! ### The end of a fetch (R75 to R78) -/

theorem fetchComplete_entries (i : Fin 12) (h : Hold) (q : List Item) (r : WindowRecord) :
    (s.fetchComplete i h q r data).entries = s.entries.set i
      (if r.differs (s.applyItems h q (r.zeroHeld data)).1 (some data)
        then .wbWait h (s.applyItems h q (r.zeroHeld data)).1 (some data) false else .free) := by
  unfold State.fetchComplete
  dsimp only
  split <;> simp [State.setEntry]

/-- But for its entry a completed fetch leaves the state its queue leaves. -/
theorem fetchComplete_rest (i : Fin 12) (h : Hold) (q : List Item) (r : WindowRecord) :
    let applied := (s.applyItems h q (r.zeroHeld data)).2
    (s.fetchComplete i h q r data).responses = applied.responses ∧
    (s.fetchComplete i h q r data).outstanding = applied.outstanding ∧
    (s.fetchComplete i h q r data).flags = applied.flags := by
  unfold State.fetchComplete
  dsimp only
  split <;> simp

theorem fetchEnded_okay {i : Fin 12} {h : Hold} {q : List Item} {r : WindowRecord}
    (he : s.entries[i] = .fetching h q d) (hr : s.record h.window = some r)
    (hcheck : r.check = true → checkPasses s.boot.polynomial data = true) :
    s.fetchEnded i (.okay data) = s.fetchComplete i h q r data := by
  have hpass : (r.check && !checkPasses s.boot.polynomial data) = false := by
    cases hc : r.check with
    | false => rfl
    | true => simp [hcheck hc]
  simp only [State.fetchEnded, he, hr, hpass]
  rfl

/-- Settles O48. -/
theorem fetchCompletionAppliesTheQueue : Obligations.FetchCompletionAppliesTheQueue := by
  refine ⟨fun s h x q copy => ⟨applyItems_nil h copy, applyItems_cons h x q copy⟩,
    fun s h n k copy r p sw hr hs hp ha => ?_, fun d data s rec i h q r hb ht ho he hr hcheck => ?_⟩
  · intro moved written copied closed
    refine ⟨fun hc => ?_, fun hc => ?_, fun hc => ?_⟩
    · rw [applyItem_sweep hr, State.applySweep, resolveItem_handed hs hp ha (by simp [hc])]
    · rw [applyItem_sweep hr, State.applySweep, resolveItem_handed hs hp ha (by simp [hc])]
    · rw [applyItem_sweep hr, State.applySweep, resolveItem_cleared hs hp ha hc]
  · intro applied
    refine ⟨_, by rw [exec_fetchResponse, takeResponse_outstanding hb ht, outcomeOf_okay, deliver_fetch ho,
      fetchEnded_okay (s := s.setTag d .free) he hr hcheck, finish_some], ?_⟩
    obtain ⟨hresponses, houtstanding, hflags⟩ := fetchComplete_rest (s := s.setTag d .free) (data := data) i h q r
    simp only [commit_keeps]
    refine ⟨by simp [State.setTag], fetchComplete_entries i h q r, by simp, hresponses, houtstanding, hflags,
      fun tag hq => ?_, fun x lanes hq => ?_⟩
    · rw [hresponses, houtstanding, hq, applyItems_cons, applyItem_read (s := s.setTag d .free) hr]
      simp [applyItems_nil, State.applyRead, State.answer, State.respond]
    · have happlied : applied = (s.setTag d .free).applyUpdate h r .up x lanes (r.zeroHeld data) := by
        simp only [applied]
        rw [hq, applyItems_cons, applyItems_nil]
        exact applyItem_update (s := s.setTag d .free) hr ..
      refine ⟨?_, by rw [happlied]; rfl⟩
      have hkept : applied.2.responses = s.responses := by simp [happlied]
      exact hresponses.trans hkept

end Sys2Proof.Machine
end

section
/-!
SUPPORT. The ends of fetches and write-backs, and the answers to shadow writes, log writes and setup reads.
-/

namespace Sys2Proof.Machine

variable {s t u : State} {d : DownTag} {rec : TagRecord} {data : Line} {code : BitVec 2}

/-! ### Fetches that fail (R82, R83, R97, R98) -/

/-- An incident is put behind those in the queue. -/
theorem report_logQueue_append (k : IncidentKind) (w : Option WindowNo) (a : ByteAddr) (detail : BitVec 32) :
    ∃ rest, (s.report k w a detail).logQueue = s.logQueue ++ rest := by
  obtain h | h | h | ⟨_, _, h⟩ | ⟨_, _, h⟩ := report_cases s k w a detail
  · exact ⟨[], by rw [h, List.append_nil]⟩
  · exact ⟨[], by rw [h, List.append_nil]; simp⟩
  · exact ⟨[], by rw [h, List.append_nil]; simp⟩
  · exact ⟨_, by rw [h]⟩
  · exact ⟨_, by rw [h]⟩

theorem listSuspect_logQueue_append (h : Hold) : ∃ rest, (s.listSuspect h).logQueue = s.logQueue ++ rest := by
  unfold State.listSuspect
  split
  · exact ⟨[], (List.append_nil _).symm⟩
  · obtain ⟨rest, hrest⟩ := report_logQueue_append (s := s.setPartFlag .suspectFull) .suspectFull (some h.window)
      (byteAddr h.line) 8
    exact ⟨rest, by rw [hrest]; simp⟩

theorem listSuspect_room {h : Hold} (hroom : s.suspects.length < 8) :
    (s.listSuspect h).suspects = s.suspects ++ [h.line] := by
  rw [State.listSuspect, if_pos hroom]

theorem listSuspect_full {h : Hold} (hfull : 8 ≤ s.suspects.length) :
    (s.listSuspect h).suspects = s.suspects ∧ (s.listSuspect h).flags.part.getLsbD 2 = true := by
  rw [State.listSuspect, if_neg (Nat.not_lt.2 hfull)]
  refine ⟨by simp, report_part _ _ _ _ _ 2 ?_⟩
  simp [PartFlag.bit]

/-- What every failed fetch leaves (R82, R83). -/
theorem fetchFault_answers (i : Fin 12) (h : Hold) (q : List Item) (c : Cause) :
    (s.fetchFault i h q c).entries = s.entries.set i .free ∧
    (s.fetchFault i h q c).responses = s.responses ++ faultAnswers q ∧
    (s.fetchFault i h q c).outstanding = (q.foldl State.disposeItem s).outstanding ∧
    (s.fetchFault i h q c).flags.part.getLsbD c.flag.bit = true := by
  have hfault (c : Cause) := faulted_part (s := s.disposed i q) c (some h.window) h.line
    (BitVec.ofNat 32 (updateCount q))
  by_cases hc : c = .mismatch
  · subst hc
    rw [fetchFault_mismatch]
    refine ⟨by simp [State.faulted, State.disposed, State.setEntry],
      by simp [State.faulted, State.disposed, foldl_disposeItem_responses], by simp [State.faulted, State.disposed], ?_⟩
    exact ((flagsStand_closedUnderUpdates _).listSuspect h (.refl _)).part (hfault .mismatch)
  · rw [fetchFault_eq hc]
    exact ⟨by simp [State.faulted, State.disposed, State.setEntry],
      by simp [State.faulted, State.disposed, foldl_disposeItem_responses], by simp [State.faulted, State.disposed],
      hfault c⟩

/-- The one incident of a failed fetch comes first in an empty log queue. -/
theorem fetchFault_incident (i : Fin 12) (h : Hold) (q : List Item) (c : Cause) (hformed : s.bootStage = .formed)
    (hwrap : s.logStyle = .wrap) (hempty : s.logQueue = []) : ∃ rest, (s.fetchFault i h q c).logQueue =
      .record s.logNext ⟨c.kind, some h.window, s.tick, byteAddr h.line, BitVec.ofNat 32 (updateCount q)⟩ :: rest := by
  have hfault (c : Cause) :
      ((s.disposed i q).faulted c (some h.window) h.line (BitVec.ofNat 32 (updateCount q))).logQueue =
      [.record s.logNext ⟨c.kind, some h.window, s.tick, byteAddr h.line, BitVec.ofNat 32 (updateCount q)⟩] := by
    rw [faulted_logQueue (by simpa [State.disposed] using hformed) (by simpa [State.disposed] using hwrap)
      (by simpa [State.disposed] using hempty)]
    simp [State.disposed]
  by_cases hc : c = .mismatch
  · subst hc
    rw [fetchFault_mismatch]
    obtain ⟨rest, hrest⟩ := listSuspect_logQueue_append
      (s := (s.disposed i q).faulted .mismatch (some h.window) h.line (BitVec.ofNat 32 (updateCount q))) h
    exact ⟨rest, by rw [hrest, hfault]; rfl⟩
  · rw [fetchFault_eq hc]
    exact ⟨[], hfault c⟩

theorem fetchEnded_mismatch {i : Fin 12} {h : Hold} {q : List Item} {r : WindowRecord}
    (he : s.entries[i] = .fetching h q d) (hr : s.record h.window = some r) (hcheck : r.check = true)
    (hfails : checkPasses s.boot.polynomial data = false) :
    s.fetchEnded i (.okay data) = s.fetchFault i h q .mismatch := by
  simp only [State.fetchEnded, he, hr, hcheck, hfails]
  rfl

/-- The list after a line check failed (R98). -/
theorem fetchFault_mismatch_suspects (i : Fin 12) (h : Hold) (q : List Item) :
    (s.suspects.length < 8 → (s.fetchFault i h q .mismatch).suspects = s.suspects ++ [h.line]) ∧
    (8 ≤ s.suspects.length → (s.fetchFault i h q .mismatch).suspects = s.suspects ∧
      (s.fetchFault i h q .mismatch).flags.part.getLsbD 2 = true) := by
  rw [fetchFault_mismatch]
  generalize hu : (s.disposed i q).faulted .mismatch (some h.window) h.line (BitVec.ofNat 32 (updateCount q)) = u
  have hsuspects : u.suspects = s.suspects := by rw [← hu]; simp [State.faulted, State.disposed]
  rw [← hsuspects]
  exact ⟨listSuspect_room, listSuspect_full⟩

/-- Settles O49. -/
theorem fetchFaultDisposesOfTheQueue : Obligations.FetchFaultDisposesOfTheQueue := by
  intro d code data s rec i h q r hb ht ho he hr hcheck
  obtain ⟨c, hended, hkind, hflag, hmemory, hmismatch⟩ : ∃ c : Cause,
      (s.setTag d .free).fetchEnded i (outcomeOf ⟨d, code, data⟩) = (s.setTag d .free).fetchFault i h q c ∧
      c.kind = (if code = 0 then .checkMismatch else .memoryFault) ∧ c.flag.bit = (if code = 0 then 1 else 4) ∧
      (code ≠ 0 → c ≠ .mismatch) ∧ (code = 0 → c = .mismatch) := by
    by_cases hcode : code = 0
    · subst hcode
      obtain ⟨hon, hfails⟩ := hcheck rfl
      exact ⟨.mismatch, fetchEnded_mismatch (s := s.setTag d .free) he hr hon hfails, rfl, rfl, fun h => absurd rfl h,
        fun _ => rfl⟩
    · refine ⟨.memory, ?_, by rw [if_neg hcode]; rfl, by rw [if_neg hcode]; rfl, by simp, fun h => absurd h hcode⟩
      rw [fetchEnded_failed (s := s.setTag d .free) he (outcomeOf_failed_isOkay hcode), outcomeOf_failed_cause hcode]
  obtain ⟨hentries, hresponses, houtstanding, hpart⟩ := fetchFault_answers (s := s.setTag d .free) i h q c
  refine ⟨_, by rw [exec_fetchResponse, takeResponse_outstanding hb ht, deliver_fetch ho, hended, finish_some], ?_⟩
  simp only [commit_keeps]
  refine ⟨by simp [State.setTag], hentries, by simp, hresponses, fun tag hq => ?_, fun hcode => ⟨?_, ?_⟩,
    fun hcode => ⟨?_, ?_⟩, fun hformed hwrap hempty => ?_⟩
  · rw [houtstanding]
    exact foldl_disposeItem_answered hq
  · rwa [hflag, if_neg hcode] at hpart
  · rw [fetchFault_eq (hmemory hcode)]
    simp [State.faulted, State.disposed]
  · rwa [hflag, if_pos hcode] at hpart
  · rw [hmismatch hcode]
    exact fetchFault_mismatch_suspects (s := s.setTag d .free) i h q
  · rw [← hkind]
    exact fetchFault_incident (s := s.setTag d .free) i h q c hformed hwrap hempty

end Sys2Proof.Machine
end

section
/-!
SUPPORT. The ends of write-backs, and the answers to shadow writes, log writes and setup reads.
-/

namespace Sys2Proof.Machine

variable {s t u : State} {d : DownTag} {rec : TagRecord} {data : Line} {code : BitVec 2}

/-! ### General entries (R80, R81, R85) -/

theorem writebackEnded_okay {i : Fin 12} {h : Hold} {copy : Line} {image : Option Line} {mark dirty : Bool}
    {sent : Line} (he : s.entries[i] = .writing h copy image mark dirty sent d) : s.writebackEnded i (.okay data) =
      (s.setEntry i (if dirty then .wbWait h copy (some sent) false else .free)).releaseOutcome mark true := by
  simp only [State.writebackEnded, he]

theorem releaseOutcome_eq (mark ok : Bool) :
    s.releaseOutcome mark ok = if mark then s.completeCommand (if ok then .ok else .memoryFault) else s := rfl

/-! ### The status line's comparison (R78, R110) -/

/-- The comparison covers the part flags. -/
theorem statusPart_memoryFault (f : StatusFlags) (ps : PartState) (suspects inUse held : Nat) (next : BitVec 16)
    (tick : BitVec 32) :
    (statusPart (encodeStatus f ps suspects inUse held next tick)).getLsbD 36 = f.part.getLsbD 4 := by
  rw [statusPart, BitVec.getLsbD_extractLsb']
  simp only [encodeStatus, BitVec.getLsbD_append, BitVec.getLsbD_setWidth]
  simp

/-- A flag that is set stays as it is when set again. -/
theorem part_or_of_getLsbD {part : BitVec 13} (h : part.getLsbD 4 = true) : part ||| 0x10 = part := by
  refine BitVec.eq_of_getLsbD_eq fun i hi => ?_
  have hmask (j : Fin 13) : (0x10 : BitVec 13).getLsbD j = true → j.val = 4 := by
    revert j
    decide
  rw [BitVec.getLsbD_or]
  by_cases hi4 : i = 4
  · rw [hi4, h, Bool.true_or]
  · rw [Bool.eq_false_iff.2 (mt (hmask ⟨i, hi⟩) hi4), Bool.or_false]

/-- MEMORY_FAULT changes the compared part of the status line where it was not set. -/
theorem statusPart_setMemoryFault (s : State) (tick : BitVec 32) :
    statusPart ((s.setPartFlag .memoryFault).statusCopy tick) = statusPart (s.statusCopy tick) ↔
      s.flags.part.getLsbD 4 = true := by
  refine ⟨fun h => ?_, fun h => ?_⟩
  · have hbit := congrArg (·.getLsbD 36) h
    simp only [State.statusCopy, statusPart_memoryFault] at hbit
    rw [← hbit]
    simp [PartFlag.bit]
  · have hflags : (s.setPartFlag .memoryFault).flags = s.flags := by
      show { s.flags with part := s.flags.part ||| 0x10 } = s.flags
      rw [part_or_of_getLsbD h]
    show statusPart (encodeStatus (s.setPartFlag .memoryFault).flags _ _ _ _ _ _) = _
    rw [hflags]
    rfl

/-- With the log OFF a fault sets its flag and no more. -/
theorem faulted_of_off (hformed : s.bootStage = .formed) (hoff : s.logStyle = .off) (c : Cause) (w : Option WindowNo)
    (l : LineAddr) (detail : BitVec 32) : s.faulted c w l detail = s.setPartFlag c.flag := by
  rw [State.faulted, report_of_formed (by simpa using hformed), takeIncident_of_off _ (by simpa using hoff)]

/-! ### Pinned entries (R87) -/

section

variable {same : Line → Line → Bool} {before after image sent : Line} {old : Option Line} {e : PinnedEntry}

theorem PinnedEntry.follow_wbWait : (PinnedEntry.wbWait old).follow same before after = .wbWait old := rfl

theorem PinnedEntry.follow_held : (PinnedEntry.held image).follow same before after =
    if same image after then .held image else .wbWait (some image) := rfl

theorem PinnedEntry.ended_writing (ok dirty : Bool) : (PinnedEntry.writing old dirty sent d).ended ok =
    if dirty then .wbWait (if ok then some sent else old) else .held sent := rfl

end

theorem statusWritebackEnded_entry (o : Outcome) :
    (s.statusWritebackEnded o).statusEntry = s.statusEntry.ended o.isOkay ∧
    (s.statusWritebackEnded o).statusWritten = true := by
  cases o with
  | okay => exact ⟨rfl, rfl⟩
  | refused | fault | expired =>
    rw [statusWritebackEnded_failed rfl]
    simp [State.faulted, Outcome.isOkay]

theorem commandWritebackEnded_entry (o : Outcome) :
    (s.commandWritebackEnded o).commandEntry = s.commandEntry.ended o.isOkay ∧
    (s.commandWritebackEnded o).commandWritten = true := by
  cases o with
  | okay => exact ⟨rfl, rfl⟩
  | refused | fault | expired =>
    rw [commandWritebackEnded_failed rfl]
    simp [State.faulted, Outcome.isOkay]

theorem isOkay_outcomeOf : (outcomeOf ⟨d, code, data⟩).isOkay = (code == 0) := by
  by_cases hcode : code = 0
  · subst hcode
    rfl
  · rw [outcomeOf_failed_isOkay hcode, beq_false_of_ne hcode]

/-- The end of the status line's write-back leaves the compared part, but for the flag of its failure. -/
theorem statusWritebackEnded_flags (hcode : code ≠ 0) :
    (s.statusWritebackEnded (outcomeOf ⟨d, code, data⟩)).flags.part.getLsbD 4 = true ∧
    (s.bootStage = .formed → s.logStyle = .off →
      (s.statusWritebackEnded (outcomeOf ⟨d, code, data⟩)).statusCopy 0 =
        (s.setPartFlag .memoryFault).statusCopy 0) := by
  rw [statusWritebackEnded_failed (outcomeOf_failed_isOkay hcode), outcomeOf_failed_cause hcode]
  exact ⟨faulted_part .memory _ _ _, fun hformed hoff => by
    rw [faulted_of_off (by exact hformed) (by exact hoff)]
    rfl⟩

theorem commandWritebackEnded_flags (hcode : code ≠ 0) :
    (s.commandWritebackEnded (outcomeOf ⟨d, code, data⟩)).flags.part.getLsbD 4 = true := by
  rw [commandWritebackEnded_failed (outcomeOf_failed_isOkay hcode), outcomeOf_failed_cause hcode]
  exact faulted_part .memory _ _ _

/-- Settles O50. -/
theorem writebackEndFreesOrRewrites : Obligations.WritebackEndFreesOrRewrites := by
  refine ⟨fun d code data s rec i h copy image mark dirty sent hb ht ho he => ?_,
    fun d code data s rec image dirty sent hb ht => ⟨fun ho he => ?_, fun ho he => ?_⟩⟩
  · intro u reported
    rw [exec_writebackResponse, takeResponse_outstanding hb ht, deliver_writeback ho, finish_some]
    by_cases hcode : code = 0
    · subst hcode
      rw [outcomeOf_okay, writebackEnded_okay (s := s.setTag d .free) he]
      rfl
    · have hended : (s.setTag d .free).writebackEnded i (outcomeOf ⟨d, code, data⟩) =
          reported.releaseOutcome mark false := by
        rw [writebackEnded_failed (s := s.setTag d .free) he (outcomeOf_failed_isOkay hcode),
          outcomeOf_failed_cause hcode]
        simp only [reported, u, if_neg hcode]
        rfl
      rw [hended, releaseOutcome_eq, if_neg hcode]
      rfl
  · generalize hu : (s.setTag d .free).statusWritebackEnded (outcomeOf ⟨d, code, data⟩) = u
    obtain ⟨hentry, hwritten⟩ : u.statusEntry = (PinnedEntry.writing image dirty sent d).ended (code == 0) ∧
        u.statusWritten = true := by
      rw [← hu, ← he, ← isOkay_outcomeOf (d := d) (data := data)]
      exact statusWritebackEnded_entry ..
    have hokay (hcode : code = 0) : u.flags = s.flags ∧ u.statusCopy 0 = s.statusCopy 0 := by
      subst hcode
      rw [← hu]
      exact ⟨rfl, rfl⟩
    have hfailed (hcode : code ≠ 0) := statusWritebackEnded_flags (s := s.setTag d .free) (d := d) (data := data) hcode
    rw [hu] at hfailed
    refine ⟨_, by rw [exec_writebackResponse, takeResponse_outstanding hb ht, deliver_status ho, hu, finish_some], ?_⟩
    simp only [commit_keeps, commit_statusEntry, hentry, PinnedEntry.ended_writing]
    refine ⟨hwritten, by simp [← hu], fun hdirty => ?_, fun hclean hcode hsame => ?_,
      fun hclean hcode hformed hoff hsame => ?_, fun hcode => (hokay hcode).1, fun hcode => (hfailed hcode).1⟩
    · simp [hdirty, PinnedEntry.follow_wbWait]
    · rw [hclean, if_neg Bool.false_ne_true, PinnedEntry.follow_held, (hokay hcode).2]
      exact if_pos (beq_iff_eq.2 hsame)
    · have hcopy : u.statusCopy 0 = (s.setPartFlag .memoryFault).statusCopy 0 := (hfailed hcode).2 hformed hoff
      have hcompare := statusPart_setMemoryFault s 0
      rw [hclean, if_neg Bool.false_ne_true, PinnedEntry.follow_held, hcopy, hsame]
      simp only [beq_iff_eq, eq_comm (a := statusPart (s.statusCopy 0)), hcompare]
  · generalize hu : (s.setTag d .free).commandWritebackEnded (outcomeOf ⟨d, code, data⟩) = u
    obtain ⟨hentry, hwritten⟩ : u.commandEntry = (PinnedEntry.writing image dirty sent d).ended (code == 0) ∧
        u.commandWritten = true := by
      rw [← hu, ← he, ← isOkay_outcomeOf (d := d) (data := data)]
      exact commandWritebackEnded_entry ..
    have hcommand : u.commandCopy = s.command.encode := by simp [State.commandCopy, ← hu]
    refine ⟨_, by rw [exec_writebackResponse, takeResponse_outstanding hb ht, deliver_command ho, hu, finish_some], ?_⟩
    simp only [commit_keeps, commit_commandEntry, hentry, PinnedEntry.ended_writing]
    refine ⟨hwritten, by simp [← hu], fun hdirty => ?_, fun hclean hsame => ?_, fun hcode => ?_, fun hcode => ?_⟩
    · simp [hdirty, PinnedEntry.follow_wbWait]
    · simp [hclean, PinnedEntry.follow_held, hcommand, hsame]
    · subst hcode
      rw [← hu]
      rfl
    · rw [← hu]
      exact commandWritebackEnded_flags hcode

/-! ### Shadow writes, log writes and setup reads (R29, R140, R141, R164) -/

/-- A shadow write's answer reaches the engine, and its failure is reported. -/
theorem exec_shadowResponse_of (hb : s.bootStage ≠ .inReset) (ht : s.tags[d] = .outstanding rec) {w : WindowNo}
    {target : ShadowTarget} {sw : Sweep} (ho : rec.origin = .shadow w target) (hs : s.engine = some sw)
    (hi : (d, target) ∈ sw.issued) : ∃ t, exec (.shadowResponse ⟨d, code, data⟩) s = .next t ∧
      t.tags = s.tags.set d .free ∧ t.engine = some (sw.answered d target (code == 0)) ∧
      (code = 0 → t.flags = s.flags) ∧ (code ≠ 0 → t.flags.part.getLsbD 4 = true) := by
  generalize hv : (s.setTag d .free).reportOutcome (some w) rec (outcomeOf ⟨d, code, data⟩) = v
  have hengine : v.engine = some sw := by simp [← hv, hs]
  refine ⟨_, by rw [exec_shadowResponse, takeResponse_outstanding hb ht, deliver_shadow ho, hv, isOkay_outcomeOf,
    shadowAnswered_of hengine hi, finish_some], ?_⟩
  simp only [commit_keeps]
  refine ⟨by simp [← hv, State.setTag], by simp, fun hcode => ?_, fun hcode => ?_⟩
  · subst hcode
    rw [← hv]
    rfl
  · rw [← hv, reportOutcome_failed (outcomeOf_failed_isOkay hcode), outcomeOf_failed_cause hcode]
    exact faulted_part .memory _ _ _

/-- Settles O51. -/
theorem shadowLogAndSetupAnswers : Obligations.ShadowLogAndSetupAnswers := by
  intro d code data s rec hb ht
  refine ⟨fun w index sw ho hs hi => ?_, fun w sw ho hs hi => ?_, fun w sw ho hs hi => ?_, fun n ho => ?_,
    fun k ho => ?_⟩
  · obtain ⟨t, hexec, htags, hengine, hflags⟩ := exec_shadowResponse_of (code := code) (data := data) hb ht ho hs hi
    refine ⟨t, hexec, htags, hengine.trans ?_, hflags⟩
    by_cases hcode : code = 0
    · subst hcode
      rfl
    · rw [beq_false_of_ne hcode, if_neg hcode, if_neg hcode]
      rfl
  · obtain ⟨t, hexec, htags, hengine, hflags⟩ := exec_shadowResponse_of (code := code) (data := data) hb ht ho hs hi
    exact ⟨t, hexec, htags, hengine, hflags⟩
  · obtain ⟨t, hexec, htags, hengine, hflags⟩ := exec_shadowResponse_of (code := code) (data := data) hb ht ho hs hi
    exact ⟨t, hexec, htags, hengine, hflags⟩
  · refine ⟨_, by rw [exec_logWriteResponse, takeResponse_outstanding hb ht, deliver_log ho, finish_some], ?_⟩
    simp only [commit_keeps]
    refine ⟨by simp [State.setTag], by simp, by simp, by simp, fun hcode => ?_, fun hcode => ?_⟩
    · subst hcode
      rfl
    · rw [logWriteEnded_failed (outcomeOf_failed_isOkay hcode), outcomeOf_failed_cause hcode]
      rfl
  · refine ⟨_, by rw [exec_setupResponse, takeResponse_outstanding hb ht, deliver_setup ho, finish_some], ?_⟩
    simp only [commit_keeps]
    by_cases hcode : code = 0
    · subst hcode
      exact ⟨rfl, rfl, fun _ => rfl, fun h => (h rfl).elim⟩
    · have hfailed := outcomeOf_failed_isOkay (d := d) (data := data) hcode
      rw [reportOutcome_failed hfailed, outcomeOf_failed_cause hcode, slot_failed hfailed, if_neg hcode]
      refine ⟨by simp [State.faulted, State.setTag], by simp [State.faulted], fun h => absurd h hcode, fun _ => ?_⟩
      exact faulted_part .memory _ _ _

end Sys2Proof.Machine
end

section
/-!
SUPPORT. The grant (R19, R21 to R24, R79, R87, R135, R137, Table 2-2).
-/

namespace Sys2Proof.Machine

variable {s t u : State} {d : DownTag}

/-- The first of the numbers that passes a test: it passes, and none before it does. -/
theorem find_finRange_eq_some_iff {n : Nat} {p : Fin n → Bool} {i : Fin n} :
    (List.finRange n).find? p = some i ↔ p i = true ∧ ∀ j < i, p j = false := by
  rw [← Fin.find?_eq_find?_finRange, Fin.find?_eq_some_iff]

theorem freeTag_eq_some_iff : s.freeTag = some d ↔ s.tags[d] = .free ∧ ∀ e < d, s.tags[e] ≠ .free := by
  have hfree (x : TagState) : x.isFree = true ↔ x = .free := by cases x <;> simp [TagState.isFree]
  rw [State.freeTag, find_finRange_eq_some_iff, hfree]
  simp only [Bool.eq_false_iff, ne_eq, hfree]

/-! ### What waits -/

theorem PinnedEntry.waits_iff {e : PinnedEntry} : e.waits = true ↔ ∃ image, e = .wbWait image := by
  cases e <;> simp [PinnedEntry.waits]

theorem Entry.waitsWrite_iff {e : Entry} :
    e.waitsWrite = true ↔ ∃ h copy image mark, e = .wbWait h copy image mark := by
  cases e <;> simp [Entry.waitsWrite]

theorem Entry.waitsFetch_iff {e : Entry} : e.waitsFetch = true ↔ ∃ h q, e = .fetchWait h q := by
  cases e <;> simp [Entry.waitsFetch]

theorem SetupSlot.waits_iff {e : SetupSlot} : e.waits = true ↔ e = .waiting := by
  cases e <;> simp [SetupSlot.waits]

theorem not_wbWait_of_waits_false {e : PinnedEntry} (h : e.waits = false) (image : Option Line) :
    e ≠ .wbWait image := by
  rintro rfl
  cases h

/-! ### The grant -/

theorem exec_portGrant_of {w : Waiter} (hb : s.bootStage ≠ .inReset) (hd : s.freeTag = some d)
    (hw : s.nextWaiter = some w) : exec .portGrant s = .next (s.commit (s.grant d w)) := by
  have hnext : s.grantNext = some (s.grant d w) := by
    simp only [State.grantNext, hd, hw]
  rw [exec_portGrant, if_neg hb, hnext, finish_some]

theorem grant_writebackStatus {image : Option Line} (h : s.statusEntry = .wbWait image) :
    s.grant d .writebackStatus =
      { s with statusEntry := .writing image false (s.statusCopy s.tick) d }.issue d (.writeback .status)
        (s.controlLine 0) (fullWrite (s.statusCopy s.tick)) := by
  simp only [State.grant, h]

theorem grant_writebackCommand {image : Option Line} (h : s.commandEntry = .wbWait image) :
    s.grant d .writebackCommand =
      { s with commandEntry := .writing image false s.commandCopy d }.issue d (.writeback .command)
        (s.controlLine 1) (fullWrite s.commandCopy) := by
  simp only [State.grant, h]

theorem grant_writeback {i : Fin 12} {h : Hold} {copy : Line} {image : Option Line} {mark : Bool}
    (he : s.entries[i] = .wbWait h copy image mark) : s.grant d (.writeback i) =
      (s.setEntry i (.writing h copy image mark false (s.writeData h copy) d)).issue d (.writeback (.general i)) h.line
        (fullWrite (s.writeData h copy)) := by
  simp only [State.grant, he]

theorem grant_fetch {i : Fin 12} {h : Hold} {q : List Item} (he : s.entries[i] = .fetchWait h q) :
    s.grant d (.fetch i) = (s.setEntry i (.fetching h q d)).issue d (.fetch i) h.line .read := by
  simp only [State.grant, he]

/-! ### The order (Table 2-2) -/

theorem findSome?_cons_orElse {α β : Type} (f : α → Option β) (a : α) (l : List α) :
    (a :: l).findSome? f = (f a <|> l.findSome? f) := by
  rw [List.findSome?_cons]
  cases f a <;> rfl

theorem nextWaiter_orderA (h : s.boot.portOrder = .a) : s.nextWaiter = (s.writebackWaiter <|> s.fetchWaiter
    <|> s.passWaiter <|> s.shadowWaiter <|> s.logWaiter <|> s.setupWaiter) := by
  simp only [State.nextWaiter, h, PortOrder.classes, findSome?_cons_orElse, State.waiterOf, List.findSome?_nil,
    Option.orElse_eq_orElse, Option.orElse_eq_or, Option.or_none]

theorem nextWaiter_orderB (h : s.boot.portOrder = .b) : s.nextWaiter = (s.writebackWaiter <|> s.shadowWaiter
    <|> s.fetchWaiter <|> s.passWaiter <|> s.logWaiter <|> s.setupWaiter) := by
  simp only [State.nextWaiter, h, PortOrder.classes, findSome?_cons_orElse, State.waiterOf, List.findSome?_nil,
    Option.orElse_eq_orElse, Option.orElse_eq_or, Option.or_none]

/-- A pinned entry just granted is not re-dirty: its copy stands. -/
theorem PinnedEntry.follow_writing_same {same : Line → Line → Bool} {before after sent : Line} {image : Option Line}
    (h : same before after = true) : (PinnedEntry.writing image false sent d).follow same before after =
      .writing image false sent d := by
  simp only [PinnedEntry.follow, h]
  rfl

/-- Settles O45. -/
theorem portGrantFollowsTheOrder : Obligations.PortGrantFollowsTheOrder := by
  refine ⟨fun s => ⟨nextWaiter_orderA, nextWaiter_orderB⟩, fun s d w hb hd hlowest hw => ?_⟩
  · have hexec := exec_portGrant_of hb (freeTag_eq_some_iff.2 ⟨hd, hlowest⟩) hw
    obtain ⟨c, hoffers⟩ := offers_of_nextWaiter hw
    cases hoffers with
    | status hwaits =>
      obtain ⟨image, he⟩ := PinnedEntry.waits_iff.1 hwaits
      refine ⟨_, ⟨.writeback .status, true, s.controlLine 0, s.tick, false⟩, fullWrite (s.statusCopy s.tick),
        by rw [hexec, grant_writebackStatus he], ?_⟩
      refine ⟨rfl, rfl, rfl, rfl, rfl, ⟨image, he, ?_⟩, rfl, rfl, rfl⟩
      exact PinnedEntry.follow_writing_same (same := fun a b => statusPart a == statusPart b) (beq_self_eq_true _)
    | command hs hwaits =>
      obtain ⟨image, he⟩ := PinnedEntry.waits_iff.1 hwaits
      refine ⟨_, ⟨.writeback .command, true, s.controlLine 1, s.tick, false⟩, fullWrite s.command.encode,
        by rw [hexec, grant_writebackCommand he], ?_⟩
      refine ⟨rfl, rfl, rfl, rfl, rfl, not_wbWait_of_waits_false hs, ⟨image, he, ?_⟩, rfl, rfl, rfl⟩
      exact PinnedEntry.follow_writing_same (beq_self_eq_true _)
    | entry i hs hc hi =>
      obtain ⟨hwaits, hbefore⟩ := find_finRange_eq_some_iff.1 hi
      obtain ⟨h, copy, image, mark, he⟩ := Entry.waitsWrite_iff.1 hwaits
      refine ⟨_, ⟨.writeback (.general i), true, h.line, s.tick, false⟩, fullWrite (s.writeData h copy),
        by rw [hexec, grant_writeback he], ?_⟩
      refine ⟨rfl, rfl, rfl, rfl, rfl,
        fun image => ⟨not_wbWait_of_waits_false hs image, not_wbWait_of_waits_false hc image⟩,
        fun j hj h copy image mark hj' => ?_, rfl, h, copy, image, mark, he, rfl, rfl, rfl⟩
      have hnone := hbefore j hj
      rw [hj'] at hnone
      cases hnone
    | fetch i hi =>
      obtain ⟨hwaits, hbefore⟩ := find_finRange_eq_some_iff.1 hi
      obtain ⟨h, q, he⟩ := Entry.waitsFetch_iff.1 hwaits
      refine ⟨_, ⟨.fetch i, false, h.line, s.tick, false⟩, .read,
        by rw [hexec, grant_fetch he], ?_⟩
      refine ⟨rfl, rfl, rfl, rfl, rfl, fun j hj h q hj' => ?_, rfl, rfl, h, q, he, rfl, rfl⟩
      have hnone := hbefore j hj
      rw [hj'] at hnone
      cases hnone
    | pass p rest hq =>
      refine ⟨_, ⟨.pass p.tag, isWriteBody p.body, p.line, s.tick, false⟩, p.body, hexec, ?_⟩
      exact ⟨rfl, rfl, rfl, rfl, rfl, hq, rfl, rfl, rfl, rfl⟩
    | shadow sw x rest hs hx =>
      refine ⟨_, ⟨.shadow sw.window x.target, true, x.line, s.tick, false⟩, fullWrite x.data, hexec, ?_⟩
      exact ⟨rfl, rfl, rfl, rfl, rfl, hs, hx, rfl, rfl, rfl, rfl⟩
    | log n i rest hq =>
      refine ⟨_, ⟨.log n, true, s.logLine n, s.tick, false⟩, fullWrite (i.encode n), hexec, ?_⟩
      exact ⟨rfl, rfl, rfl, rfl, rfl, hq, rfl, rfl, rfl, rfl⟩
    | setup k hk =>
      obtain ⟨hwaits, hbefore⟩ := find_finRange_eq_some_iff.1 hk
      refine ⟨_, ⟨.setup k, false, s.controlLine k.val, s.tick, false⟩, .read, hexec, ?_⟩
      refine ⟨rfl, rfl, rfl, rfl, rfl, fun j hj hj' => ?_, rfl, rfl, rfl, rfl⟩
      have hnone := hbefore j hj
      rw [hj'] at hnone
      cases hnone

end Sys2Proof.Machine
end

section
/-!
SUPPORT. UPDATE items at acceptance, and the Event Input Unit's claim (R71, R73, R74, R88, R89, R101, R123).
-/

namespace Sys2Proof.Machine

variable {s t u : State} {n m : InputNo} {b : Binding} {r : WindowRecord}

/-! ### UPDATE items at acceptance (R71, R73, R74) -/

section

variable {h k : Hold} {o : UpdateOrigin} {x copy : Line} {lanes : BitVec 8} {i : Fin 12} {image : Option Line}
  {mark dirty : Bool} {sent : Line} {d : DownTag}

/-- An UPDATE applied gives the copy of R59 to R62 and leaves the table. -/
theorem applyItem_update_copy (hr : s.record k.window = some r) (ho : o ≠ .cmd) :
    (s.applyItem k (.update o x lanes) copy).1 = r.update s.tick lanes x copy ∧
    (s.applyItem k (.update o x lanes) copy).2.entries = s.entries := by
  rw [applyItem_update hr]
  refine ⟨?_, by simp⟩
  rw [State.applyUpdate, if_neg ho]

theorem accept_update_wbWait (hp : s.place h.line = .apply i) (he : s.entries[i] = .wbWait k copy image mark)
    (hr : s.record k.window = some r) (ho : o ≠ .cmd) : (s.accept h (.update o x lanes)).entries =
      s.entries.set i (.wbWait k (r.update s.tick lanes x copy) image mark) := by
  obtain ⟨hcopy, hentries⟩ := applyItem_update_copy (s := s) (x := x) (copy := copy) (lanes := lanes) hr ho
  rw [accept_wbWait _ _ _ _ _ _ _ _ hp he, State.setEntry, hcopy, hentries]

theorem accept_update_writing (hp : s.place h.line = .apply i)
    (he : s.entries[i] = .writing k copy image mark dirty sent d) (hr : s.record k.window = some r) (ho : o ≠ .cmd) :
    (s.accept h (.update o x lanes)).entries = s.entries.set i (.writing k (r.update s.tick lanes x copy) image mark
      (dirty || r.update s.tick lanes x copy != copy) sent d) := by
  obtain ⟨hcopy, hentries⟩ := applyItem_update_copy (s := s) (x := x) (copy := copy) (lanes := lanes) hr ho
  rw [accept_writing _ _ _ _ _ _ _ _ _ _ _ hp he, State.setEntry, hcopy, hentries]

theorem applyItem_update_responses : (s.applyItem h (.update o x lanes) copy).2.responses = s.responses := by
  cases hr : s.record h.window with
  | none => simp only [State.applyItem, hr]
  | some r =>
    rw [applyItem_update hr]
    simp

/-- An UPDATE is answered to no one when it is accepted. -/
theorem accept_update_responses : (s.accept h (.update o x lanes)).responses = s.responses := by
  cases hp : s.place h.line with
  | openAt i => rw [accept_openAt _ _ _ _ hp]
  | full i | noEntry => simp only [State.accept, hp]
  | join i =>
    simp only [State.accept, hp, State.joinQueue]
    split <;> rfl
  | apply i =>
    simp only [State.accept, hp, State.applyAt]
    split
    · exact applyItem_update_responses
    · exact applyItem_update_responses
    · rfl

end

/-! ### The claim taken (R101, R123) -/

/-- What the unit has when its claim is taken. -/
structure State.Served (s : State) (n : InputNo) (u : State) : Prop where
  inputs     : u.inputs = s.inputs.set n { s.inputs[n] with pending := 0 }
  servicePos : u.servicePos = n + 1
  eventClaim : u.eventClaim = none
  newCounts  : u.newCounts = s.newCounts
  bindings   : u.bindings = s.bindings
  levels     : u.levels = s.levels
  partState  : u.partState = s.partState
  responses  : u.responses = s.responses
  suspects   : u.suspects = s.suspects

theorem served_eventDiscarded : s.Served n (s.eventDiscarded n b) := by
  constructor <;> simp [State.eventDiscarded, State.eventServed, State.setInput]

theorem served_accept (h : Hold) : s.Served n ((s.eventServed n).accept h (s.eventItem n b r)) where
  inputs := by simp [State.eventServed, State.setInput]
  servicePos := by simp [State.eventServed]
  eventClaim := by simp [State.eventServed]
  newCounts := by simp [State.eventServed]
  bindings := by simp [State.eventServed]
  levels := by simp [State.eventServed]
  partState := by simp [State.eventServed]
  responses := accept_update_responses
  suspects := by simp [State.eventServed]

theorem State.Served.input_eq (h : s.Served n u) (m : InputNo) :
    u.inputs[m] = if m = n then { s.inputs[n] with pending := 0 } else s.inputs[m] := by
  have hat : u.inputs[m] = (s.inputs.set n { s.inputs[n] with pending := 0 })[m] := by simp only [h.inputs]
  refine hat.trans ?_
  by_cases hm : m = n
  · subst hm
    simp
  · have hne : n.val ≠ m.val := fun he => hm (Fin.ext he.symm)
    rw [if_neg hm]
    exact Vector.getElem_set_ne _ _ hne

/-- A count taken leaves the edges due. -/
theorem State.Served.edgeDue_eq (h : s.Served n u) (m : InputNo) : u.edgeDue m = s.edgeDue m := by
  have hcount : u.inputs[m].debounceCount = s.inputs[m].debounceCount ∧ u.inputs[m].stuck = s.inputs[m].stuck := by
    rw [h.input_eq]
    split
    · rename_i hm
      subst hm
      exact ⟨rfl, rfl⟩
    · exact ⟨rfl, rfl⟩
  simp only [State.edgeDue, State.changeDue, State.debounceTime, State.edgeCounts, State.binding, h.partState, h.levels,
    h.bindings, hcount]

theorem searchOrder_succ : ∀ n : InputNo, searchOrder (n + 1) = [n + 1, n + 2, n + 3, n] := by decide

/-- The unit then claims the next input that has a count. -/
theorem State.Served.makeClaim (h : s.Served n u) (hsample : s.newCounts = 0 ∨ ∀ m : InputNo, s.edgeDue m = false) :
    u.makeClaim.eventClaim = [n + 1, n + 2, n + 3, n].find? fun m =>
      (s.bindings[m]).isSome && decide (0 < u.inputs[m].pending) := by
  have hstand (m : InputNo) : (u.newCounts.getLsbD m.val && (List.finRange 4).any u.edgeDue) = false := by
    obtain hnew | hdue := hsample
    · rw [h.newCounts, hnew]
      simp
    · have hany : (List.finRange 4).any u.edgeDue = false :=
        List.any_eq_false.2 fun m _ => by rw [h.edgeDue_eq, hdue m]; exact Bool.false_ne_true
      rw [hany, Bool.and_false]
  rw [makeClaim_free h.eventClaim, h.servicePos, searchOrder_succ]
  refine congrArg (List.find? · _) (funext fun m => ?_)
  simp only [State.claimable, State.binding, hstand, h.bindings, Bool.not_false, Bool.and_true]

theorem takeEventClaim_none (h : s.sweepReady = true ∨ s.repairReady = true) : s.takeEventClaim = none := by
  have hother : (!s.eventReady || s.sweepReady || s.repairReady) = true := by
    obtain h | h := h <;> simp [h]
  simp only [State.takeEventClaim, hother, if_true]
  split
  · rfl
  · split <;> rfl

section

variable (hc : s.eventClaim = some n) (hb : s.bindings[n] = some b) (hr : s.record b.window = some r)
  (he : s.eventReady = true) (hs : s.sweepReady = false) (hp : s.repairReady = false)

include hc hb he hs hp

theorem takeEventClaim_listed (hl : s.listed b.target = true) :
    s.takeEventClaim = some (s.eventDiscarded n b).makeClaim := by
  have hbind : s.binding n = some b := hb
  simp only [State.takeEventClaim, hc, hbind, he, hs, hp, hl]
  rfl

include hr

theorem takeEventClaim_accepted (hl : s.listed b.target = false) : s.takeEventClaim =
    some ((s.eventServed n).accept ⟨b.target, b.window⟩ (s.eventItem n b r)).makeClaim := by
  have hbind : s.binding n = some b := hb
  simp only [State.takeEventClaim, hc, hbind, he, hs, hp, hl, hr]
  rfl

end

/-- Settles O39. -/
theorem eventClaimBecomesAnUpdate : Obligations.EventClaimBecomesAnUpdate := by
  refine ⟨fun s h => ?_, fun s n b r hactive hc hb hr he hs hp => ?_⟩
  · rw [exec_eventClaimTaken, takeEventClaim_none h]
    split <;> rfl
  · intro value data item new
    have hitem : s.eventItem n b r = item := rfl
    obtain ⟨u, htaken, hserved, hlisted, hunlisted⟩ : ∃ u, s.takeEventClaim = some u.makeClaim ∧ s.Served n u ∧
        (b.target ∈ s.suspects → u = s.eventDiscarded n b) ∧
        (b.target ∉ s.suspects → u = (s.eventServed n).accept ⟨b.target, b.window⟩ item) := by
      by_cases hl : s.listed b.target = true
      · exact ⟨_, takeEventClaim_listed hc hb he hs hp hl, served_eventDiscarded, fun _ => rfl,
          fun h => absurd ((listed_iff _).1 hl) h⟩
      · exact ⟨_, takeEventClaim_accepted hc hb hr he hs hp (Bool.eq_false_iff.2 hl), served_accept _,
          fun h => absurd ((listed_iff _).2 h) hl, fun _ => by rw [hitem]⟩
    refine ⟨_, by rw [exec_eventClaimTaken, if_pos hactive, htaken, finish_some], ?_⟩
    have hpending : u.inputs[n].pending = 0 := by rw [hserved.input_eq, if_pos rfl]
    simp only [commit_keeps, makeClaim_keeps]
    refine ⟨hpending, hserved.servicePos, fun m hm => ?_, hserved.makeClaim, hserved.responses, hserved.suspects,
      fun hl => ?_, fun hl => ?_⟩
    · rw [hserved.input_eq, if_neg hm]
    · rw [hlisted hl]
      exact ⟨by simp [State.eventDiscarded, State.eventServed, State.setInput],
        report_part _ _ _ _ _ 5 (by simp [PartFlag.bit])⟩
    · rw [hunlisted hl]
      refine ⟨fun i hi => ?_, fun i h q hi hq => ?_, fun i h q d hi hq => ?_, fun i h copy image mark hi hq hw => ?_,
        fun i h copy image mark dirty sent d hi hq hw => ?_⟩
      · rw [accept_openAt (s.eventServed n) ⟨b.target, b.window⟩ item i hi]
        exact ⟨rfl, rfl⟩
      · rw [accept_fetchWait (s.eventServed n) ⟨b.target, b.window⟩ h item i q hi hq]
        exact ⟨rfl, rfl⟩
      · rw [accept_fetching (s.eventServed n) ⟨b.target, b.window⟩ h item i q d hi hq]
        exact ⟨rfl, rfl⟩
      · exact accept_update_wbWait (s := s.eventServed n) (h := ⟨b.target, b.window⟩) hi hq
          (by rw [hw]; exact hr) (by decide)
      · exact accept_update_writing (s := s.eventServed n) (h := ⟨b.target, b.window⟩) hi hq
          (by rw [hw]; exact hr) (by decide)

end Sys2Proof.Machine
end

section
/-!
SUPPORT. The claims of the Sweep Engine and of the Control Unit (R72, R85, R88, R89, R102 to R104, R137, R138, R142).
-/

namespace Sys2Proof.Machine

variable {s t u : State} {sw : Sweep} {r p : WindowRecord} {l : LineAddr} {i : Fin 12}

/-! ### The Sweep Engine's claim -/

/-- The sweep of a window of `length` lines after the item of its next line resolved. -/
def Sweep.moved (sw : Sweep) (length : Nat) : Sweep :=
  if length ≤ sw.nextIndex + 1 then { sw with nextIndex := sw.nextIndex + 1, inFlight := .none, phase := .closing }
  else { sw with nextIndex := sw.nextIndex + 1 }

theorem Sweep.moved_next {length : Nat} (h : sw.nextIndex + 1 < length) :
    sw.moved length = { sw with nextIndex := sw.nextIndex + 1 } := if_neg (Nat.not_le.2 h)

theorem Sweep.moved_last {length : Nat} (h : ¬sw.nextIndex + 1 < length) :
    sw.moved length = { sw with nextIndex := sw.nextIndex + 1, inFlight := .none, phase := .closing } :=
  if_pos (Nat.not_lt.1 h)

/-- A skipped line is counted as failed (R102). -/
theorem resolveItem_skipped (hs : s.engine = some sw) (hp : s.record sw.window = some p) (ha : sw.abandoning = false)
    (hw : sw.inFlight = .claimWaiting) (hc : sw.action ≠ .clear) : s.resolveItem sw.nextIndex .skipped =
      { s with engine := some { sw.moved p.length with failed := sw.failed + 1 } } := by
  rw [resolveItem_of hs hp]
  by_cases hn : sw.nextIndex + 1 < p.length
  · rw [advanceSweep_next (sw := sw.resolved p s.boot.polynomial sw.nextIndex .skipped) ha hn,
      Sweep.moved_next hn, ← hw]
    rfl
  · rw [advanceSweep_closing (sw := sw.resolved p s.boot.polynomial sw.nextIndex .skipped) ha hn hc,
      Sweep.moved_last hn]
    rfl

section

variable {h k : Hold} {copy : Line} {image : Option Line} {mark dirty : Bool} {sent : Line} {d : DownTag}
  {n : BitVec 16}

/-- A copying SWEEP item applied to a copy hands it over and clears it as its action says (R66, R138). -/
theorem applyItem_sweep_handed (hp : s.record sw.window = some p) (hc : sw.action ≠ .clear)
    (hk : k.window = sw.window) :
    s.applyItem k (.sweep sw.action n sw.nextIndex) copy =
      (if sw.action = .copyClear then p.clearInPlace copy else copy,
        s.resolveItem sw.nextIndex (.handed copy)) := by
  rw [applyItem_sweep (by rw [hk]; exact hp)]
  cases hact : sw.action with
  | copy | copyClear => rfl
  | clear => exact absurd hact hc

theorem applyItem_sweep_cleared (hp : s.record sw.window = some p) (hc : sw.action = .clear)
    (hk : k.window = sw.window) : s.applyItem k (.sweep sw.action n sw.nextIndex) copy =
      (p.clearInPlace copy, s.resolveItem sw.nextIndex .cleared) := by
  rw [applyItem_sweep (by rw [hk]; exact hp), hc]
  rfl

end

/-- The engine with its item accepted. -/
def State.itemAccepted (s : State) (sw : Sweep) : State := { s with engine := some { sw with inFlight := .accepted } }

theorem itemAccepted_handed (hp : s.record sw.window = some p) (ha : sw.abandoning = false)
    (hw : sw.inFlight = .claimWaiting) (hc : sw.action ≠ .clear) (copy : Line) :
    (s.itemAccepted sw).resolveItem sw.nextIndex (.handed copy) = { s with
      engine := some { sw.moved p.length with
        waiting := sw.waiting ++ [⟨.line sw.nextIndex, p.shadowBase + BitVec.ofNat 28 (sw.nextIndex + 1),
          p.fillHeld s.boot.polynomial copy⟩] } } := by
  refine (resolveItem_handed (s := s.itemAccepted sw) (sw := { sw with inFlight := .accepted }) rfl hp ha hc
    sw.nextIndex copy).trans ?_
  by_cases hn : sw.nextIndex + 1 < p.length
  · rw [Sweep.moved_next hn]
    simp only [if_pos hn]
    rw [← hw]
    rfl
  · rw [Sweep.moved_last hn]
    simp only [if_neg hn]
    rfl

/-- The engine IDLE after the last line of a CLEAR sweep (R142). -/
def State.clearClosed (s : State) (sw : Sweep) : State := { s with
  engine := none
  flags := { s.flags with
    sweepDone := s.flags.sweepDone ||| (1#16 <<< sw.window.val)
    part := if 0 < sw.failed then s.flags.part ||| 0x100 else s.flags.part } }

theorem itemAccepted_cleared (hp : s.record sw.window = some p) (ha : sw.abandoning = false)
    (hw : sw.inFlight = .claimWaiting) (hc : sw.action = .clear) :
    (s.itemAccepted sw).resolveItem sw.nextIndex .cleared = if p.length ≤ sw.nextIndex + 1 then s.clearClosed sw
      else { s with engine := some (sw.moved p.length) } := by
  refine (resolveItem_cleared (s := s.itemAccepted sw) (sw := { sw with inFlight := .accepted }) rfl hp ha hc
    sw.nextIndex).trans ?_
  by_cases hn : sw.nextIndex + 1 < p.length
  · rw [if_neg (Nat.not_le.2 hn), Sweep.moved_next hn]
    refine (if_pos hn).trans ?_
    rw [← hw]
    rfl
  · rw [if_pos (Nat.not_lt.1 hn)]
    exact if_neg hn

/-! ### When the claim can be taken (R88, R102, R103) -/

theorem sweepReady_eq (hs : s.engine = some sw) (hr : s.record sw.window = some r) (hw : sw.inFlight = .claimWaiting) :
    s.sweepReady = if s.listed (sw.claimLine r) then sw.action != .clear || s.freeEntry.isSome
      else (s.place (sw.claimLine r)).available := by
  simp only [State.sweepReady, hs, hr, hw]
  rfl

theorem takeSweepClaim_listed (hs : s.engine = some sw) (hr : s.record sw.window = some r)
    (hw : sw.inFlight = .claimWaiting) (hl : s.listed (sw.claimLine r) = true) (hc : sw.action ≠ .clear) :
    s.takeSweepClaim = some (s.resolveItem sw.nextIndex .skipped) := by
  have hact : (sw.action != .clear) = true := bne_iff_ne.2 hc
  have hready : s.sweepReady = true := by rw [sweepReady_eq hs hr hw, if_pos hl, hact, Bool.true_or]
  simp only [State.takeSweepClaim, hs, hr, hready, hl, hact]
  rfl

theorem takeSweepClaim_accepted (hs : s.engine = some sw) (hr : s.record sw.window = some r)
    (hready : s.sweepReady = true) (h : s.listed (sw.claimLine r) = false ∨ sw.action = .clear) :
    s.takeSweepClaim = some (s.acceptSweepItem sw r) := by
  have hskip : (s.listed (sw.claimLine r) && sw.action != .clear) = false := by
    obtain h | h := h <;> simp [h]
  simp only [State.takeSweepClaim, hs, hr, hready, hskip]
  rfl

theorem acceptSweepItem_openFetch (hp : s.place (sw.claimLine r) = .openAt i) (hc : sw.action ≠ .clear) :
    s.acceptSweepItem sw r = (s.itemAccepted sw).openFetch i ⟨sw.claimLine r, sw.window⟩ sw.item := by
  simp only [State.acceptSweepItem, hp, if_neg hc]
  rfl

theorem acceptSweepItem_openCleared (hp : s.place (sw.claimLine r) = .openAt i) (hc : sw.action = .clear) :
    s.acceptSweepItem sw r = (s.itemAccepted sw).openCleared i ⟨sw.claimLine r, sw.window⟩ r sw.item false := by
  simp only [State.acceptSweepItem, hp, if_pos hc]
  rfl

theorem acceptSweepItem_held (hp : ∀ i, s.place (sw.claimLine r) ≠ .openAt i) : s.acceptSweepItem sw r =
    (s.itemAccepted sw).accept ⟨sw.claimLine r, sw.window⟩ sw.item := by
  unfold State.acceptSweepItem
  dsimp only
  split
  · rename_i i hi
    exact absurd hi (hp i)
  · rfl

/-- Where an entry opened with the window's cleared line takes its opening item. -/
theorem applyAt_openCleared {h : Hold} {x : Item} {mark : Bool} : s.openCleared i h r x mark =
    (((s.delist h.line).setEntry i (.wbWait h r.clearedLine none mark)).applyItem h x r.clearedLine).2.setEntry i
      (.wbWait h (((s.delist h.line).setEntry i (.wbWait h r.clearedLine none mark)).applyItem h x r.clearedLine).1 none
        mark) := by
  have he : ((s.delist h.line).setEntry i (.wbWait h r.clearedLine none mark)).entries[i] =
      .wbWait h r.clearedLine none mark := by
    simp [State.setEntry]
  simp only [State.openCleared, State.applyAt, he]

/-- The claim of a line an entry holds, or whose entry opens with a fetch. -/
theorem exec_sweepClaimTaken_of (hactive : s.partState = .active) (hs : s.engine = some sw)
    (hr : s.record sw.window = some r) (hw : sw.inFlight = .claimWaiting) (hl : sw.claimLine r ∉ s.suspects)
    (hp : (s.place (sw.claimLine r)).available = true) :
    exec .sweepClaimTaken s = .next (s.commit (s.acceptSweepItem sw r)) := by
  have hlisted : s.listed (sw.claimLine r) = false := Bool.eq_false_iff.2 fun h => hl ((listed_iff _).1 h)
  have hready : s.sweepReady = true := by
    rw [sweepReady_eq hs hr hw, hlisted, if_neg Bool.false_ne_true, hp]
  rw [exec_sweepClaimTaken, if_pos hactive, takeSweepClaim_accepted hs hr hready (.inl hlisted), finish_some]

/-- A CLEAR item opens its entry for a listed line too (R103). -/
theorem exec_sweepClaimTaken_clear (hactive : s.partState = .active) (hs : s.engine = some sw)
    (hr : s.record sw.window = some r) (hw : sw.inFlight = .claimWaiting) (hc : sw.action = .clear)
    (hp : s.place (sw.claimLine r) = .openAt i) (hf : s.freeEntry = some i) :
    exec .sweepClaimTaken s = .next (s.commit (s.acceptSweepItem sw r)) := by
  have hready : s.sweepReady = true := by
    rw [sweepReady_eq hs hr hw, hp, hf]
    split
    · exact Bool.or_true _
    · rfl
  rw [exec_sweepClaimTaken, if_pos hactive, takeSweepClaim_accepted hs hr hready (.inr hc), finish_some]

/-- Settles O40. -/
theorem sweepClaimResolves : Obligations.SweepClaimResolves := by
  intro s sw r hactive hs hr hw ha l item last moved produced handed closed cleared
  have hheld {i : Fin 12} {x : Place} (hp : s.place l = x) (hx : ∀ j, x ≠ .openAt j) (j : Fin 12) :
      s.place (sw.claimLine r) ≠ .openAt j := fun h => hx j (hp.symm.trans h)
  have hcleared (hc : sw.action = .clear) : (s.itemAccepted sw).resolveItem sw.nextIndex .cleared = cleared :=
    itemAccepted_cleared hr ha hw hc
  have hentries : cleared.entries = s.entries := by
    simp only [cleared]
    split <;> rfl
  refine ⟨fun hl hc => ?_, fun hl hc i hi => ?_, fun hl i h q hi he => ?_, fun hl i h q d hi he => ?_,
    fun hl i h copy image mark hi he hk => ?_, fun hl i h copy image mark dirty sent d hi he hk => ?_,
    fun hc i hi hf => ?_⟩
  · rw [exec_sweepClaimTaken, if_pos hactive, takeSweepClaim_listed hs hr hw ((listed_iff _).2 hl) hc, finish_some,
      resolveItem_skipped hs hr ha hw hc]
    rfl
  · rw [exec_sweepClaimTaken_of hactive hs hr hw hl (by rw [show s.place (sw.claimLine r) = _ from hi]; rfl),
      acceptSweepItem_openFetch hi hc]
    rfl
  · rw [exec_sweepClaimTaken_of hactive hs hr hw hl (by rw [show s.place (sw.claimLine r) = _ from hi]; rfl),
      acceptSweepItem_held (fun j h => by cases hi.symm.trans h),
      accept_fetchWait (s.itemAccepted sw) ⟨sw.claimLine r, sw.window⟩ h sw.item i q hi he]
    rfl
  · rw [exec_sweepClaimTaken_of hactive hs hr hw hl (by rw [show s.place (sw.claimLine r) = _ from hi]; rfl),
      acceptSweepItem_held (fun j h => by cases hi.symm.trans h),
      accept_fetching (s.itemAccepted sw) ⟨sw.claimLine r, sw.window⟩ h sw.item i q d hi he]
    rfl
  · rw [exec_sweepClaimTaken_of hactive hs hr hw hl (by rw [show s.place (sw.claimLine r) = _ from hi]; rfl),
      acceptSweepItem_held (fun j h => by cases hi.symm.trans h),
      accept_wbWait (s.itemAccepted sw) ⟨sw.claimLine r, sw.window⟩ h sw.item i copy image mark hi he, Sweep.item]
    refine ⟨fun hc => ?_, fun hc => ?_⟩
    · rw [applyItem_sweep_handed (s := s.itemAccepted sw) hr hc hk, itemAccepted_handed hr ha hw hc]
      rfl
    · rw [applyItem_sweep_cleared (s := s.itemAccepted sw) hr hc hk, hcleared hc, State.setEntry, hentries]
  · rw [exec_sweepClaimTaken_of hactive hs hr hw hl (by rw [show s.place (sw.claimLine r) = _ from hi]; rfl),
      acceptSweepItem_held (fun j h => by cases hi.symm.trans h),
      accept_writing (s.itemAccepted sw) ⟨sw.claimLine r, sw.window⟩ h sw.item i copy image mark dirty sent d hi he,
      Sweep.item]
    refine ⟨fun hc => ?_, fun hc => ?_⟩
    · rw [applyItem_sweep_handed (s := s.itemAccepted sw) hr hc hk, itemAccepted_handed hr ha hw hc]
      rfl
    · rw [applyItem_sweep_cleared (s := s.itemAccepted sw) hr hc hk, hcleared hc, State.setEntry, hentries]
  · rw [exec_sweepClaimTaken_clear hactive hs hr hw hc hi hf, acceptSweepItem_openCleared hi hc]
    have hresolved : (((s.itemAccepted sw).delist l).setEntry i (.wbWait ⟨l, sw.window⟩ r.clearedLine none
        false)).resolveItem sw.nextIndex .cleared = { cleared with
          suspects := s.suspects.filter (· != l)
          entries := s.entries.set i (.wbWait ⟨l, sw.window⟩ r.clearedLine none false) } := by
      refine (itemAccepted_cleared (s := (s.delist l).setEntry i (.wbWait ⟨l, sw.window⟩ r.clearedLine none false))
        hr ha hw hc).trans ?_
      simp only [cleared]
      split <;> rfl
    have hopened : (s.itemAccepted sw).openCleared i ⟨l, sw.window⟩ r sw.item false = { cleared with
        suspects := s.suspects.filter (· != l)
        entries := s.entries.set i (.wbWait ⟨l, sw.window⟩ (r.clearInPlace r.clearedLine) none false) } := by
      rw [applyAt_openCleared, Sweep.item, applyItem_sweep_cleared (s := ((s.itemAccepted sw).delist l).setEntry i
        (.wbWait ⟨l, sw.window⟩ r.clearedLine none false)) (k := ⟨l, sw.window⟩) hr hc rfl, hresolved]
      simp only [State.setEntry, Vector.set_set]
    exact congrArg (fun x => Host.Outcome.next (s.commit x)) hopened

/-! ### The Control Unit's claim -/

theorem takeReleaseClaim_none (h : s.sweepReady = true) : s.takeReleaseClaim = none := by
  simp only [State.takeReleaseClaim, h, Bool.or_true, if_true]
  split <;> rfl

/-- The repair's UPDATE changes nothing (R104). -/
theorem applyItem_cmd (h : Hold) (copy : Line) : s.applyItem h cmdItem copy = (copy, s) := by
  cases hr : s.record h.window with
  | none => simp only [State.applyItem, hr]
  | some r =>
    rw [cmdItem, applyItem_update hr]
    rfl

theorem takeReleaseClaim_listed {w : WindowNo} (hc : s.releaseClaim = some l) (hs : s.sweepReady = false)
    (hl : s.listed l = true) (hf : s.freeEntry = some i) (hw : s.windowOf l = some w) (hr : s.record w = some r) :
    s.takeReleaseClaim = some { s with
      releaseClaim := none
      suspects := s.suspects.filter (· != l)
      entries := s.entries.set i (.wbWait ⟨l, w⟩ r.clearedLine none true) } := by
  have hready : s.repairReady = true := by simp [State.repairReady, hc, hf]
  simp only [State.takeReleaseClaim, hc, hs, hready, hl, hf, hw, hr, Option.map_some, applyAt_openCleared,
    applyItem_cmd, State.setEntry, Vector.set_set]
  rfl

theorem takeReleaseClaim_unlisted (hc : s.releaseClaim = some l) (hs : s.sweepReady = false)
    (hl : s.listed l = false) :
    s.takeReleaseClaim = some ({ s with releaseClaim := none }.completeCommand .notFound) := by
  have hready : s.repairReady = true := by simp [State.repairReady, hc, hl]
  simp only [State.takeReleaseClaim, hc, hs, hready, hl]
  rfl

/-- Settles O41. -/
theorem releaseClaimRepairsTheLine : Obligations.ReleaseClaimRepairsTheLine := by
  refine ⟨fun s h => ?_, fun s l hactive hc hs => ⟨fun hl i w r hf hw hr => ?_, fun hl => ?_⟩⟩
  · rw [exec_releaseClaimTaken, takeReleaseClaim_none h]
    split <;> rfl
  · rw [exec_releaseClaimTaken, if_pos hactive, takeReleaseClaim_listed hc hs ((listed_iff _).2 hl) hf hw hr,
      finish_some]
  · rw [exec_releaseClaimTaken, if_pos hactive,
      takeReleaseClaim_unlisted hc hs (Bool.eq_false_iff.2 fun h => hl ((listed_iff _).1 h)), finish_some]

end Sys2Proof.Machine
end

section
/-!
SUPPORT. The Sweep Engine's own steps: headers, the start and the end of a sweep (R96, R135, R136, R141, R146).
-/

namespace Sys2Proof.Machine

variable {s t u : State} {sw : Sweep} {r : WindowRecord}

/-! ### Headers (R96, R136) -/

/-- Two patterns that agree in their low `n` bits do so behind the same field. -/
theorem getLsbD_append_congr {k n m : Nat} {a : BitVec k} {x : BitVec n} (y : BitVec m)
    (h : ∀ j < n, a.getLsbD j = x.getLsbD j) (i : Nat) (hi : i < n + m) : (a ++ y).getLsbD i = (x ++ y).getLsbD i := by
  rw [BitVec.getLsbD_append, BitVec.getLsbD_append]
  split
  · rfl
  · exact h _ (by omega)

/-- Bytes 0 to 13 of a header are its fields, in order. -/
theorem encodeHeader_low (st : HeaderState) (window : WindowNo) (action : SweepAction) (source : SweepSource)
    (sequence : BitVec 16) (startTick : BitVec 32) (endTick : BitVec 16) (copied failed : Nat) :
    (encodeHeader st window action source sequence startTick endTick copied failed).extractLsb' 0 112 =
      (BitVec.ofNat 16 failed ++ BitVec.ofNat 16 copied ++ endTick ++ startTick ++ sequence
        ++ BitVec.ofNat 8 window.val ++ ((0#1) ++ source.code ++ action.code ++ st.code)) := by
  refine BitVec.eq_of_getLsbD_eq fun i hi => ?_
  have hfailed (j : Nat) (hj : j < 16) : ((0#16) ++ BitVec.ofNat 16 failed).getLsbD j =
      (BitVec.ofNat 16 failed).getLsbD j := by
    rw [BitVec.getLsbD_append, if_pos hj]
  rw [BitVec.getLsbD_extractLsb', decide_eq_true hi, Bool.true_and, Nat.zero_add, encodeHeader]
  exact getLsbD_append_congr _ (getLsbD_append_congr _ (getLsbD_append_congr _ (getLsbD_append_congr _
    (getLsbD_append_congr _ (getLsbD_append_congr _ hfailed))))) i hi

/-- Bytes 14 and 15 of a header are zero until the check value is put there. -/
theorem encodeHeader_high (st : HeaderState) (window : WindowNo) (action : SweepAction) (source : SweepSource)
    (sequence : BitVec 16) (startTick : BitVec 32) (endTick : BitVec 16) (copied failed : Nat) :
    fieldAt (encodeHeader st window action source sequence startTick endTick copied failed) 14 16 = 0 := by
  refine BitVec.eq_of_getLsbD_eq fun i hi => ?_
  rw [fieldAt, BitVec.getLsbD_extractLsb', decide_eq_true hi, Bool.true_and, encodeHeader]
  repeat rw [BitVec.getLsbD_append, if_neg (by omega)]
  exact BitVec.getLsbD_zero.trans BitVec.getLsbD_zero.symm

variable (s sw r) in
/-- A header write carries the header, and a check value that passes in a check-on window. -/
theorem headerWrite_data (st : HeaderState) (target : ShadowTarget) (endTick : BitVec 16) :
    (s.headerWrite sw r st target endTick).data.extractLsb' 0 112 =
      (BitVec.ofNat 16 sw.failed ++ BitVec.ofNat 16 sw.copied ++ endTick ++ sw.startTick ++ sw.sequence
        ++ BitVec.ofNat 8 sw.window.val ++ ((0#1) ++ sw.source.code ++ sw.action.code ++ st.code)) ∧
    (r.check = false → fieldAt (s.headerWrite sw r st target endTick).data 14 16 = 0) ∧
    (r.check = true → checkPasses s.boot.polynomial (s.headerWrite sw r st target endTick).data = true) := by
  unfold State.headerWrite
  dsimp only
  cases hck : r.check with
  | false =>
    rw [if_neg Bool.false_ne_true]
    exact ⟨encodeHeader_low .., fun _ => encodeHeader_high .., fun h => nomatch h⟩
  | true =>
    rw [if_pos rfl]
    refine ⟨(extractLsb'_putBits_of_disjoint _ _ _ _ _ (.inl (by decide)) (by decide)).trans (encodeHeader_low ..),
      fun h => (nomatch h), fun _ => ?_⟩
    rw [checkPasses_iff, checkValue_putBits_check]
    exact extractLsb'_putBits_self 112 _ _ (by decide)

/-! ### The start (R135) -/

/-- Settles O42. -/
theorem sweepStartsWithItsHeader : Obligations.SweepStartsWithItsHeader := by
  intro s q rest r hactive hidle hq hr
  have hbegin : s.beginSweep = some (s.startSweep q rest r) := by
    simp only [State.beginSweep, hidle, hq, hr]
    rfl
  refine ⟨_, s.openingSweep q r (s.windows[q.window].sequence + 1), by rw [exec_sweepStart, if_pos hactive, hbegin,
    finish_some], rfl, rfl, rfl, ?_⟩
  by_cases hc : q.action = .clear
  · rw [State.openingSweep, if_pos hc]
    exact ⟨rfl, rfl, rfl, rfl, rfl, rfl, rfl, rfl, rfl, rfl, rfl, fun _ => ⟨rfl, rfl, rfl⟩, fun h => absurd hc h,
      rfl, rfl, rfl⟩
  · rw [State.openingSweep, if_neg hc]
    refine ⟨rfl, rfl, rfl, rfl, rfl, rfl, rfl, rfl, rfl, rfl, rfl, fun h => absurd h hc,
      fun _ => ⟨rfl, rfl, _, rfl, headerWrite_data s _ r .inProgress .opening 0⟩, rfl, rfl, rfl⟩

/-! ### The end (R141, R146) -/

theorem allAnswered_of (hw : sw.waiting = []) (hi : sw.issued = []) : sw.allAnswered = true := by
  rw [Sweep.allAnswered, hw, hi]
  rfl

theorem produceEnding_of (hw : sw.waiting = []) (st : HeaderState) : s.produceEnding sw r st =
    { s with engine := some { sw with
      waiting := [⟨.ending, r.shadowBase, (s.headerWrite sw r st .ending s.endTick).data⟩]
      endHeader := .produced } } := by
  rw [State.produceEnding, hw]
  rfl

/-- SWEEP_FAULT is set where a line or a header failed. -/
theorem faulty_iff {failed : Bool} (he : sw.endHeader = .answered failed) :
    sw.faulty = true ↔ 0 < sw.failed ∨ sw.headerFailed = true ∨ failed = true := by
  simp [Sweep.faulty, he, EndHeader.failed, or_assoc]

theorem setPartFlagIf_faulty {failed : Bool} (he : sw.endHeader = .answered failed) :
    s.setPartFlagIf sw.faulty .sweepFault =
      if 0 < sw.failed ∨ sw.headerFailed = true ∨ failed = true then s.setPartFlag .sweepFault else s := by
  simp only [State.setPartFlagIf, faulty_iff he]

/-- Settles O43. -/
theorem sweepClosesAfterItsHeader : Obligations.SweepClosesAfterItsHeader := by
  intro s sw r hs hphase ha
  refine ⟨fun hc he hw hi hr => ?_, fun failed he => ?_⟩
  · have hact : (sw.action != .clear) = true := bne_iff_ne.2 hc
    have hdue : sw.closingDue = true := by
      rw [Sweep.closingDue, hphase, ha, hact, he, allAnswered_of hw hi]
      rfl
    have hheader : s.closeHeader = some (s.produceEnding sw r .complete) := by
      simp only [State.closeHeader, hs, hdue, hr]
      rfl
    exact ⟨_, (s.headerWrite sw r .complete .ending s.endTick).data,
      by rw [exec_closingHeaderProduced, hheader, finish_some], by rw [produceEnding_of hw],
      headerWrite_data s sw r _ _ _⟩
  · have hclose : s.closeSweep =
        some (({ s with engine := none }.setSweepDone sw.window).setPartFlagIf sw.faulty .sweepFault) := by
      simp only [State.closeSweep, hs, hphase, ha, he]
      rfl
    rw [exec_sweepClose, hclose, finish_some, setPartFlagIf_faulty he]
    split <;> rfl

/-- Settles O44. -/
theorem abandonedSweepEnds : Obligations.AbandonedSweepEnds := by
  intro s sw r hs ha hfly hw hi hr ended
  have hsettled : sw.settled = true := by
    rw [Sweep.settled, ha, hfly, allAnswered_of hw hi]
    rfl
  have hreport : { s with engine := none }.reportAbandoned sw = ended := by
    have hbase : { s with engine := none }.windowBase sw.window = r.base := by
      simp only [State.windowBase, show { s with engine := none }.record sw.window = some r from hr]
    rw [State.reportAbandoned, hbase]
  refine ⟨fun hc he => ?_, fun hc failed he => ?_, fun hc => ?_⟩
  · have hact : (sw.action != .clear) = true := bne_iff_ne.2 hc
    have hheader : s.abandonHeader = some (s.produceEnding sw r .abandoned) := by
      simp only [State.abandonHeader, hs, hsettled, hact, he, hr]
      rfl
    exact ⟨(s.headerWrite sw r .abandoned .ending s.endTick).data,
      by rw [exec_abandoningHeaderProduced, hheader, finish_some, produceEnding_of hw],
      (headerWrite_data s sw r _ _ _).1⟩
  · have hend : s.endAbandoned = some (ended.setPartFlagIf sw.faulty .sweepFault) := by
      simp only [State.endAbandoned, hs, hsettled, hc, he, hreport]
      rfl
    rw [exec_sweepAbandoned, hend, finish_some, setPartFlagIf_faulty he]
  · have hend : s.endAbandoned = some ended := by
      simp only [State.endAbandoned, hs, hsettled, hc, hreport]
      rfl
    rw [exec_sweepAbandoned, hend, finish_some]

end Sys2Proof.Machine
end

section
/-!
SUPPORT. Requests examined as they arrive: pass-through requests, refusals, the pinned lines and the Control Area
(R3 to R17, R90, R111, R151).
-/

namespace Sys2Proof.Machine

variable {s t u : State} {q : UpRequest} {tag : UpTag} {e : Enables} {data : Line}

/-! ### Examination on arrival -/

/-- A request taken with no head held is examined at once where the part state lets it. -/
theorem finish_arrive_examines (hh : s.head = none) (hb : s.bootStage ≠ .inReset) (he : s.examines = true) :
    finish s (s.arrive q) = .next (s.commit ({ s with head := some q }.examine q)) := by
  have hopen : ¬(s.bootStage = .inReset ∨ s.head.isSome = true) := by simp [hb, hh]
  rw [State.arrive, if_neg hopen, examineHead_of_some (q := q) rfl (by exact he), finish_some]

theorem finish_arrive_serves (hs : s.serves q.tag = true) :
    finish s (s.arrive q) = .next (s.commit ({ s with head := some q }.examine q)) := by
  obtain ⟨hh, hb, he, -⟩ := (serves_iff s _).1 hs
  exact finish_arrive_examines hh hb he

/-- The classes of a request that arrives with a free tag. -/
theorem examine_arrived (ht : s.outstanding.contains q.tag = false) : ({ s with head := some q } : State).examine q =
    match s.classify (lineOf q.addr) with
    | .status => ({ s with head := some q } : State).serveStatus q
    | .command => ({ s with head := some q } : State).serveCommand q
    | .control k => ({ s with head := some q } : State).serveControl q k.val
    | .log => ({ s with head := some q } : State).servePartOwned q
    | .shadow => ({ s with head := some q } : State).servePartOwned q
    | .pass => ({ s with head := some q } : State).servePass q
    | .window w =>
      match s.record w with
      | some r => ({ s with head := some q } : State).serveWindow q w r
      | none => ({ s with head := some q } : State).servePass q := by
  exact examine_of_class ({ s with head := some q } : State) q ht

theorem tag_free_of_serves (hs : s.serves q.tag = true) : s.outstanding.contains q.tag = false :=
  ((serves_iff s _).1 hs).2.2.2

theorem head_of_serves (hs : s.serves tag = true) : s.head = none := ((serves_iff s _).1 hs).1

/-! ### Pass-through requests (R14, R16) -/

theorem addOutstanding_free (ht : s.outstanding.contains tag = false) :
    s.addOutstanding tag = { s with outstanding := s.outstanding ++ [tag] } := by
  rw [State.addOutstanding, if_neg (by rw [ht]; exact Bool.false_ne_true)]

/-- A request queued as it arrives. -/
theorem acceptPass_arrived (hh : s.head = none) (ht : s.outstanding.contains q.tag = false) :
    ({ s with head := some q } : State).acceptPass q = { s with
      passQueue := s.passQueue ++ [⟨q.tag, lineOf q.addr, q.body⟩], outstanding := s.outstanding ++ [q.tag] } := by
  rw [State.acceptPass, leave_arrived s q hh, addOutstanding_free ht]

theorem servePass_arrived (hh : s.head = none) (ht : s.outstanding.contains q.tag = false) :
    (s.passQueue.length < 8 → ({ s with head := some q } : State).servePass q = { s with
      passQueue := s.passQueue ++ [⟨q.tag, lineOf q.addr, q.body⟩], outstanding := s.outstanding ++ [q.tag] }) ∧
    (8 ≤ s.passQueue.length → ({ s with head := some q } : State).servePass q = { s with head := some q }) := by
  refine ⟨fun hroom => ?_, fun hfull => if_neg (Nat.not_lt.2 hfull)⟩
  exact (if_pos hroom).trans (acceptPass_arrived hh ht)

/-- The requests that only the pass-through queue takes. -/
theorem examine_passThrough (ht : s.outstanding.contains q.tag = false)
    (h : s.classify (lineOf q.addr) = .pass ∨ (q.body = .read ∧ (s.classify (lineOf q.addr) = .log
      ∨ s.classify (lineOf q.addr) = .shadow ∨ ∃ k, s.classify (lineOf q.addr) = .control k))) :
    ({ s with head := some q } : State).examine q = ({ s with head := some q } : State).servePass q := by
  rw [examine_arrived ht]
  obtain h | ⟨hread, h | h | ⟨k, h⟩⟩ := h
  · rw [h]
  · rw [h]
    simp only [State.servePartOwned, hread]
  · rw [h]
    simp only [State.servePartOwned, hread]
  · rw [h]
    simp only [State.serveControl, hread]

/-- Settles O21. -/
theorem passThroughQueuedOrStalled : Obligations.PassThroughQueuedOrStalled := by
  intro q s hs hclass
  have ht := tag_free_of_serves hs
  obtain ⟨hqueued, hstalled⟩ := servePass_arrived (head_of_serves hs) ht
  rw [exec_passThroughRequest, finish_arrive_serves hs, examine_passThrough ht hclass]
  exact ⟨fun hroom => by rw [hqueued hroom], fun hfull => by rw [hstalled hfull]⟩

/-! ### Refusals (R5, R8, R10, R13, R112) -/

theorem examine_tagInUse (hh : s.head = none) (ht : s.outstanding.contains q.tag = true) :
    ({ s with head := some q } : State).examine q = s.refusedWith q.tag q.addr none .tagInUse := by
  rw [State.examine, if_pos (by exact ht), refuse_arrived s q none _ hh]

/-- A request for a line of the Control Area, by the number of its line. -/
theorem lineOf_controlRequest (k : Nat) (b : ReqBody) : lineOf (s.controlRequest tag k b).addr = s.controlLine k :=
  lineOf_byteAddr _

theorem examine_command (ht : s.outstanding.contains tag = false) (b : ReqBody) :
    ({ s with head := some (s.controlRequest tag 1 b) } : State).examine (s.controlRequest tag 1 b) =
      ({ s with head := some (s.controlRequest tag 1 b) } : State).serveCommand (s.controlRequest tag 1 b) := by
  rw [examine_arrived (by exact ht), lineOf_controlRequest, classify_command]

/-- A request for a line of the Control Area that the bridge does not write itself. -/
theorem examine_control (ht : s.outstanding.contains tag = false) (k : Fin 42) (hk : 2 ≤ k.val) (b : ReqBody) :
    ({ s with head := some (s.controlRequest tag k.val b) } : State).examine (s.controlRequest tag k.val b) =
      ({ s with head := some (s.controlRequest tag k.val b) } : State).serveControl (s.controlRequest tag k.val b)
        k.val := by
  rw [examine_arrived (by exact ht), lineOf_controlRequest, classify_setting s k hk]

section

variable (hh : s.head = none) (ht : s.outstanding.contains tag = false)

include hh ht

theorem examine_partOwned {addr : ByteAddr} (h : s.classify (lineOf addr) = .status ∨ s.classify (lineOf addr) = .log
    ∨ s.classify (lineOf addr) = .shadow) : ({ s with head := some ⟨tag, addr, .write e data⟩ } : State).examine
      ⟨tag, addr, .write e data⟩ = s.refusedWith tag addr none .partOwned := by
  rw [examine_arrived (by exact ht)]
  obtain h | h | h := h <;> rw [h] <;> exact refuse_arrived s _ none _ hh

theorem examine_commandBusy (hrun : s.command.state = .running) :
    ({ s with head := some (s.controlRequest tag 1 (.write e data)) } : State).examine
      (s.controlRequest tag 1 (.write e data)) =
        s.refusedWith tag (byteAddr (s.controlLine 1)) none .commandBusy := by
  rw [examine_command ht]
  exact (if_pos hrun).trans (refuse_arrived s _ none _ hh)

theorem examine_commandShort (hrun : s.command.state ≠ .running) (hshort : e.extractLsb' 0 8 ≠ 0xFF) :
    ({ s with head := some (s.controlRequest tag 1 (.write e data)) } : State).examine
      (s.controlRequest tag 1 (.write e data)) =
        s.refusedWith tag (byteAddr (s.controlLine 1)) none .commandShort := by
  have henables : (!enablesCommand e) = true := by
    rw [enablesCommand, beq_false_of_ne hshort]
    rfl
  rw [examine_command ht]
  exact (if_neg hrun).trans ((if_pos henables).trans (refuse_arrived s _ none _ hh))

theorem examine_protected (k : Fin 42) (hk : 3 ≤ k.val) (hp : s.boot.protect = true) :
    ({ s with head := some (s.controlRequest tag k.val (.write e data)) } : State).examine
      (s.controlRequest tag k.val (.write e data)) =
        s.refusedWith tag (byteAddr (s.controlLine k.val)) none .protect := by
  rw [examine_control ht k (by omega)]
  exact (if_pos ⟨hp, hk⟩).trans (refuse_arrived s _ none _ hh)

end

/-- Settles O22. -/
theorem refusedRequestsReachNothing : Obligations.RefusedRequestsReachNothing := by
  intro tag addr e data s hh hb he
  refine ⟨fun ht b => ?_, fun ht => ⟨fun h => ?_, fun h => ?_, fun hrun hshort => ?_, fun hp k hk => ?_⟩⟩
  · rw [exec_passThroughRequest, finish_arrive_examines hh hb he, examine_tagInUse hh ht]
  · rw [exec_partOwnedWrite, finish_arrive_examines hh hb he, examine_partOwned hh ht h]
  · rw [exec_commandWriteRefused, finish_arrive_examines hh hb he, examine_commandBusy hh ht h]
  · rw [exec_commandWriteRefused, finish_arrive_examines hh hb he, examine_commandShort hh ht hrun hshort]
  · rw [exec_controlAreaLineWrite, finish_arrive_examines hh hb he, examine_protected hh ht k hk hp]

/-! ### The pinned lines (R7, R111) -/

/-- Settles O27. -/
theorem statusReadClearsTheFlags : Obligations.StatusReadClearsTheFlags := by
  intro tag s hs
  have hh := head_of_serves hs
  have ht : s.outstanding.contains tag = false := ((serves_iff s tag).1 hs).2.2.2
  refine ⟨?_, ?_⟩
  · rw [exec_statusLineRead, finish_arrive_serves (q := s.controlRequest tag 0 .read) hs,
      examine_arrived (q := s.controlRequest tag 0 .read) ht, lineOf_controlRequest, classify_status]
    have hserved : ({ s with head := some (s.controlRequest tag 0 .read) } : State).serveStatus
        (s.controlRequest tag 0 .read) = (s.respond tag .okay (some (s.statusCopy s.tick))).clearFlags :=
      congrArg State.clearFlags (answerHead_arrived s (s.controlRequest tag 0 .read) .okay _ hh)
    exact congrArg (fun x => Host.Outcome.next (s.commit x)) hserved
  · have hexec : exec (.passThroughRequest ⟨tag, byteAddr (s.controlLine 1), .read⟩) s =
        finish s (s.arrive (s.controlRequest tag 1 .read)) := exec_passThroughRequest ..
    rw [hexec, finish_arrive_serves (q := s.controlRequest tag 1 .read) hs, examine_command ht]
    have hserved : ({ s with head := some (s.controlRequest tag 1 .read) } : State).serveCommand
        (s.controlRequest tag 1 .read) = s.respond tag .okay (some s.commandCopy) :=
      answerHead_arrived s (s.controlRequest tag 1 .read) .okay _ hh
    rw [hserved]
    rfl

/-! ### The Control Area (R7, R14, R17, R151) -/

/-- A write to a line of the Control Area that is accepted or stalls, not refused. -/
theorem serveControl_write_arrived {k : Fin 42} (hh : s.head = none) (ht : s.outstanding.contains tag = false)
    (hp : ¬(s.boot.protect = true ∧ 3 ≤ k.val)) :
    let q := s.controlRequest tag k.val (.write e data)
    let queued : State := { s with
      passQueue := s.passQueue ++ [⟨tag, s.controlLine k.val, .write e data⟩], outstanding := s.outstanding ++ [tag] }
    (s.passQueue.length < 8 →
      ({ s with head := some q } : State).serveControl q k.val = queued.takeSetting k.val e data) ∧
    (8 ≤ s.passQueue.length →
      ({ s with head := some q } : State).serveControl q k.val = { s with head := some q }) := by
  intro q queued
  have hq : ({ s with head := some q } : State).acceptPass q = queued := by
    rw [acceptPass_arrived hh (by exact ht), lineOf_controlRequest]
    rfl
  refine ⟨fun hroom => ?_, fun hfull => ?_⟩
  · refine (if_neg hp).trans ((if_pos hroom).trans ?_)
    rw [hq]
  · exact (if_neg hp).trans (if_neg (Nat.not_lt.2 hfull))

theorem takeSetting_protect : s.takeSetting 2 e data =
    { s with boot := { s.boot with protect := if e.getLsbD 0 then data.getLsbD 0 else s.boot.protect } } := by
  rw [State.takeSetting, if_pos rfl]
  split <;> rfl

/-- Settles O28. -/
theorem protectWriteTakesTheField : Obligations.ProtectWriteTakesTheField := by
  intro tag e data s hs
  have hh := head_of_serves hs
  have ht : s.outstanding.contains tag = false := ((serves_iff s tag).1 hs).2.2.2
  obtain ⟨hqueued, hstalled⟩ := serveControl_write_arrived (k := 2) (e := e) (data := data) hh ht (by simp)
  have hexec : exec (.protectWrite tag e data) s = .next (s.commit
      (({ s with head := some (s.controlRequest tag 2 (.write e data)) } : State).serveControl
        (s.controlRequest tag 2 (.write e data)) 2)) := by
    rw [exec_protectWrite, finish_arrive_serves (q := s.controlRequest tag 2 (.write e data)) hs]
    exact congrArg (fun x => Host.Outcome.next (s.commit x)) (examine_control ht 2 (by decide) _)
  rw [hexec]
  refine ⟨fun hroom => ?_, fun hfull => ?_⟩
  · exact congrArg (fun x => Host.Outcome.next (s.commit x)) ((hqueued hroom).trans takeSetting_protect)
  · exact congrArg (fun x => Host.Outcome.next (s.commit x)) (hstalled hfull)

theorem takeSetting_other {k : Nat} (hk : k = 3 ∨ 7 ≤ k) : s.takeSetting k e data = s := by
  rw [State.takeSetting, if_neg (by omega)]
  split
  · rfl
  · rw [if_neg (by omega), if_neg (by omega), if_neg (by omega)]

/-- A write to lines 3 to 41 without protect. -/
theorem finish_arrive_control (hs : s.serves tag = true) (k : Fin 42) (hk : 2 ≤ k.val) (b : ReqBody) :
    finish s (s.arrive (s.controlRequest tag k.val b)) = .next (s.commit
      (({ s with head := some (s.controlRequest tag k.val b) } : State).serveControl (s.controlRequest tag k.val b)
        k.val)) := by
  have ht : s.outstanding.contains tag = false := ((serves_iff s tag).1 hs).2.2.2
  rw [finish_arrive_serves (q := s.controlRequest tag k.val b) hs, examine_control ht k hk]

/-- Settles O30. -/
theorem controlAreaWriteIsForwarded : Obligations.ControlAreaWriteIsForwarded := by
  intro tag k e data s hs hp hk
  have ht : s.outstanding.contains tag = false := ((serves_iff s tag).1 hs).2.2.2
  obtain ⟨hqueued, hstalled⟩ := serveControl_write_arrived (k := k) (e := e) (data := data) (head_of_serves hs) ht
    (by simp [hp])
  refine ⟨fun hroom hother => ?_, fun hfull => ⟨?_, ?_⟩⟩
  · rw [exec_controlAreaLineWrite, finish_arrive_control hs k (by omega), hqueued hroom, takeSetting_other hother]
  · rw [exec_controlAreaLineWrite, finish_arrive_control hs k (by omega), hstalled hfull]
    rfl
  · rw [exec_liveSettingWrite, finish_arrive_control hs k (by omega), hstalled hfull]
    rfl

/-! ### The head (R3, R4, R14, R90) -/

theorem headTurn_of {q : UpRequest} (h : ∀ w, s.classify (lineOf q.addr) = .window w →
    s.sweepReady = false ∧ s.repairReady = false ∧ s.eventReady = false) : s.headTurn q = true := by
  unfold State.headTurn
  split
  · rename_i w hw
    obtain ⟨hsweep, hrepair, hevent⟩ := h w hw
    rw [State.claimsReady, hsweep, hrepair, hevent]
    rfl
  · rfl

theorem headTurn_behind {q : UpRequest} {w : WindowNo} (hw : s.classify (lineOf q.addr) = .window w)
    (h : s.sweepReady = true ∨ s.repairReady = true ∨ s.eventReady = true) : s.headTurn q = false := by
  have hready : s.claimsReady = true := by simpa [State.claimsReady, or_assoc] using h
  simp only [State.headTurn, hw, hready]
  rfl

theorem exec_headReexamination_of (hq : s.head = some q) (he : s.examines = true) (hturn : s.headTurn q = true) :
    exec .headReexamination s = .next (s.commit (s.examine q)) := by
  rw [exec_headReexamination, he, hq, Option.any_some, hturn, examineHead_of_some hq he]
  rfl

/-- Settles O31. -/
theorem headHeldThenReexamined : Obligations.HeadHeldThenReexamined := by
  intro q s
  refine ⟨fun hh hb he => ?_, fun h => ?_, fun hq hb he hturn => ?_, fun hq hw hready => ?_,
    fun hq he ht hc hroom => ?_⟩
  · have hopen : ¬(s.bootStage = .inReset ∨ s.head.isSome = true) := by simp [hb, hh]
    have hheld : ({ s with head := some q } : State).examineHead = { s with head := some q } := by
      have hnot : ({ s with head := some q } : State).examines = false := he
      simp only [State.examineHead, hnot]
      rfl
    rw [exec_headRequestHeld, State.arrive, if_neg hopen, hheld, finish_some]
  · rw [exec_headRequestHeld, State.arrive, if_pos (or_comm.1 h)]
    rfl
  · have hs : ({ { s with head := none } with head := some q } : State) = s := by
      cases s
      cases hq
      rfl
    rw [exec_headReexamination_of hq he (headTurn_of hturn), exec_passThroughRequest,
      finish_arrive_examines (s := { s with head := none }) rfl hb he, hs]
    rfl
  · obtain ⟨w, hw⟩ := hw
    rw [exec_headReexamination, hq, Option.any_some, headTurn_behind hw hready, Bool.and_false]
    rfl
  · rw [exec_headReexamination_of hq he (headTurn_of fun w hw => by rw [hc] at hw; cases hw),
      examine_of_class s q ht, hc]
    dsimp only
    rw [servePass_of_room hroom, State.acceptPass, addOutstanding_free (by exact ht)]
    rfl

end Sys2Proof.Machine
end

section
/-!
SUPPORT. Requests for window lines (R9 to R14, R39, R63 to R65, R67, R71, R73, R74, R88, R89).
-/

namespace Sys2Proof.Machine

variable {s t u : State} {q : UpRequest} {tag : UpTag} {addr : ByteAddr} {e : Enables} {data : Line} {w : WindowNo}
  {r : WindowRecord} {l : LineAddr}

/-! ### Examination of a request for a window line -/

theorem finish_arrive_window (hs : s.serves q.tag = true) (hc : s.classify (lineOf q.addr) = .window w)
    (hr : s.record w = some r) : finish s (s.arrive q) =
      .next (s.commit (({ s with head := some q } : State).serveWindow q w r)) := by
  rw [finish_arrive_serves hs, examine_arrived (tag_free_of_serves hs), hc]
  simp only [hr]

theorem Place.available_iff {p : Place} :
    p.available = true ↔ (∃ i, p = .apply i) ∨ (∃ i, p = .join i) ∨ ∃ i, p = .openAt i := by
  cases p <;> simp [Place.available]

theorem headTakeable_iff : s.headTakeable l = true ↔
    ((∃ i, s.place l = .apply i) ∨ (∃ i, s.place l = .join i) ∨ ∃ i, s.place l = .openAt i) ∧
      s.sweepReady = false ∧ s.repairReady = false ∧ s.eventReady = false := by
  simp only [State.headTakeable, State.claimsReady, Bool.and_eq_true, Bool.not_eq_true', Bool.or_eq_false_iff,
    Place.available_iff, and_assoc]

/-! ### Writes (R9 to R12) -/

section

variable (hh : s.head = none)

include hh

theorem serveWindow_write_empty : ({ s with head := some ⟨tag, addr, .write 0 data⟩ } : State).serveWindow
    ⟨tag, addr, .write 0 data⟩ w r = s.respond tag .okay none := by
  simp only [State.serveWindow, if_true]
  exact answerHead_arrived s ⟨tag, addr, .write 0 data⟩ .okay none hh

theorem serveWindow_write_refused {x : Reason} (he : e ≠ 0) (hx : r.laneRefusal e = some x) :
    ({ s with head := some ⟨tag, addr, .write e data⟩ } : State).serveWindow ⟨tag, addr, .write e data⟩ w r =
      s.refusedWith tag addr (some w) x := by
  simp only [State.serveWindow, if_neg he, hx]
  exact refuse_arrived s ⟨tag, addr, .write e data⟩ (some w) x hh

theorem serveWindow_write_suspect (he : e ≠ 0) (hx : r.laneRefusal e = none) (hl : s.listed (lineOf addr) = true) :
    ({ s with head := some ⟨tag, addr, .write e data⟩ } : State).serveWindow ⟨tag, addr, .write e data⟩ w r =
      s.refusedWith tag addr (some w) .suspect := by
  simp only [State.serveWindow, if_neg he, hx]
  exact (if_pos hl).trans (refuse_arrived s ⟨tag, addr, .write e data⟩ (some w) .suspect hh)

/-- A write that passes its tests is accepted where its item can be taken, and stalls where it cannot. -/
theorem serveWindow_write_posted (he : e ≠ 0) (hx : r.laneRefusal e = none) (hl : s.listed (lineOf addr) = false) :
    ({ s with head := some ⟨tag, addr, .write e data⟩ } : State).serveWindow ⟨tag, addr, .write e data⟩ w r =
      if s.headTakeable (lineOf addr) then
        (s.respond tag .okay none).accept ⟨lineOf addr, w⟩ (.update .up data (r.format.laneSet e))
      else { s with head := some ⟨tag, addr, .write e data⟩ } := by
  have hunlisted : ¬({ s with head := some ⟨tag, addr, .write e data⟩ } : State).listed (lineOf addr) = true := by
    rw [show ({ s with head := some ⟨tag, addr, .write e data⟩ } : State).listed (lineOf addr) = false from hl]
    exact Bool.false_ne_true
  simp only [State.serveWindow, if_neg he, hx, if_neg hunlisted, State.postUpdate,
    answerHead_arrived s ⟨tag, addr, .write e data⟩ .okay none hh]
  rfl

end

/-- Settles O24. -/
theorem windowWriteRefusedOrEmpty : Obligations.WindowWriteRefusedOrEmpty := by
  intro tag addr e data s w r hs hc hr
  have hh := head_of_serves hs
  rw [exec_windowWrite, finish_arrive_window (q := ⟨tag, addr, .write e data⟩) hs hc hr]
  refine ⟨fun he => ?_, fun he x hx => ?_, fun he hx hl => ?_⟩
  · subst he
    rw [serveWindow_write_empty hh]
  · rw [serveWindow_write_refused hh he hx]
  · rw [serveWindow_write_suspect hh he hx hl]

/-- Settles O23. -/
theorem windowWriteIsPosted : Obligations.WindowWriteIsPosted := by
  refine ⟨fun tag addr e data s w r => ?_, fun s l => headTakeable_iff⟩
  intro l item u hs hc hr he hx hl
  rw [exec_windowWrite, finish_arrive_window (q := ⟨tag, addr, .write e data⟩) hs hc hr,
    serveWindow_write_posted (head_of_serves hs) he hx hl]
  refine ⟨fun hstall => ?_, fun htake => ?_⟩
  · rw [if_neg (by rw [show s.headTakeable (lineOf addr) = false from hstall]; exact Bool.false_ne_true)]
  · rw [if_pos htake]
    refine ⟨fun i hi => ?_, fun i h q hi hq => ?_, fun i h q d hi hq => ?_, fun i h copy image mark hi hq hw => ?_,
      fun i h copy image mark dirty sent d hi hq hw => ?_⟩
    · rw [accept_openAt u ⟨l, w⟩ item i hi]
      rfl
    · rw [accept_fetchWait u ⟨l, w⟩ h item i q hi hq]
      rfl
    · rw [accept_fetching u ⟨l, w⟩ h item i q d hi hq]
      rfl
    · refine ⟨_, rfl, ?_, ?_⟩
      · exact accept_update_responses (s := u)
      · exact accept_update_wbWait (s := u) (h := ⟨l, w⟩) hi hq (by rw [hw]; exact hr) (by decide)
    · intro new
      refine ⟨_, rfl, ?_, ?_⟩
      · exact accept_update_responses (s := u)
      · exact accept_update_writing (s := u) (h := ⟨l, w⟩) hi hq (by rw [hw]; exact hr) (by decide)

/-! ### Reads (R12, R63 to R65, R73, R74) -/

theorem serveWindow_read_listed (hh : s.head = none) (hl : s.listed (lineOf addr) = true) :
    ({ s with head := some ⟨tag, addr, .read⟩ } : State).serveWindow ⟨tag, addr, .read⟩ w r =
      s.respond tag .fault none :=
  (if_pos hl).trans (answerHead_arrived s ⟨tag, addr, .read⟩ .fault none hh)

/-- A read is accepted where its item can be taken, its tag outstanding while it waits, and stalls where it cannot. -/
theorem serveWindow_read_posted (hh : s.head = none) (hl : s.listed (lineOf addr) = false) :
    ({ s with head := some ⟨tag, addr, .read⟩ } : State).serveWindow ⟨tag, addr, .read⟩ w r =
      if s.headTakeable (lineOf addr) then
        (if s.waitsForFetch (lineOf addr) then s.addOutstanding tag else s).accept ⟨lineOf addr, w⟩ (.read tag)
      else { s with head := some ⟨tag, addr, .read⟩ } := by
  have hunlisted : ¬({ s with head := some ⟨tag, addr, .read⟩ } : State).listed (lineOf addr) = true := by
    rw [show ({ s with head := some ⟨tag, addr, .read⟩ } : State).listed (lineOf addr) = false from hl]
    exact Bool.false_ne_true
  simp only [State.serveWindow, if_neg hunlisted, State.postRead, leave_arrived s ⟨tag, addr, .read⟩ hh]
  rfl

/-- A tag that is not outstanding is not taken off. -/
theorem answer_free (ht : s.outstanding.contains tag = false) (x : Result) (v : Option Line) :
    s.answer tag x v = s.respond tag x v := by
  have hfilter : s.outstanding.filter (· != tag) = s.outstanding := by
    refine List.filter_eq_self.2 fun y hy => bne_iff_ne.2 ?_
    rintro rfl
    simp [hy] at ht
  rw [State.answer, hfilter]
  rfl

theorem applyItem_read_free {h : Hold} (hr : s.record h.window = some r) (ht : s.outstanding.contains tag = false)
    (copy : Line) : s.applyItem h (.read tag) copy = (if r.readAction = .clear then r.clearInPlace copy else copy,
      s.respond tag .okay (some (r.fillHeld s.boot.polynomial copy))) := by
  rw [applyItem_read hr, State.applyRead, answer_free ht]

/-! ### Cleared values (R39, R67) -/

theorem laneBits_clearInPlace {i : Nat} (hi : i < r.format.lanes) (copy : Line) :
    laneBits r.format.width i (r.clearInPlace copy) =
      if i < r.dataLanes then BitVec.ofInt r.format.width (r.clearedValue i) else laneBits r.format.width i copy := by
  rw [WindowRecord.clearInPlace, laneBits_foldl_writeLane _ _ _ _ _ (r.format.lane_fits hi)]
  simp only [List.mem_range]

theorem laneBits_zero (w i : Nat) : laneBits w i 0 = 0 := BitVec.extractLsb'_zero

/-- The cleared values of Table 3-5, read off the window's function and format. -/
theorem clearedValue_eq (h : r.function = .extreme → r.format ≠ .u32) (i : Nat) : r.clearedValue i =
    if r.function ≠ .extreme then 0 else match i with
      | 0 => if r.format = .s16 then 32767 else 65535
      | 1 => 65535
      | 2 => if r.format = .s16 then -32768 else 0
      | 3 => 65535
      | _ => 0 := by
  by_cases hf : r.function = .extreme
  · rw [if_neg (not_not.2 hf)]
    unfold WindowRecord.clearedValue
    cases hform : r.format with
    | u32 => exact absurd hform (h hf)
    | u16 | s16 =>
      rw [hf]
      match i with
      | 0 | 1 | 2 | 3 => rfl
      | i + 4 => rfl
  · rw [if_pos hf]
    unfold WindowRecord.clearedValue
    cases hfun : r.function with
    | extreme => exact absurd hfun hf
    | accumulate | weighted | difference => rfl

/-- Settles O26. -/
theorem windowReadAnsweredOrQueued : Obligations.WindowReadAnsweredOrQueued := by
  refine ⟨fun tag addr s w r => ?_, fun r copy i hi => ?_⟩
  · intro l clear answered hs hc hr
    let waiting : State := { s with outstanding := s.outstanding ++ [tag] }
    have hh := head_of_serves hs
    have ht : s.outstanding.contains tag = false := ((serves_iff s tag).1 hs).2.2.2
    rw [exec_windowRead, finish_arrive_window (q := ⟨tag, addr, .read⟩) hs hc hr]
    refine ⟨fun hl => by rw [serveWindow_read_listed hh hl], fun hl hstall => ?_, fun hl htake => ?_⟩
    · rw [serveWindow_read_posted hh hl,
        if_neg (by rw [show s.headTakeable (lineOf addr) = false from hstall]; exact Bool.false_ne_true)]
    · rw [serveWindow_read_posted hh hl, if_pos htake]
      have hwaits (hp : ∀ i, s.place l ≠ .apply i) : s.waitsForFetch (lineOf addr) = true := by
        unfold State.waitsForFetch
        split
        · rename_i i hi
          exact absurd hi (hp i)
        · rfl
      have happlies {i : Fin 12} (hp : s.place l = .apply i) : ¬s.waitsForFetch (lineOf addr) = true := by
        have hp : s.place (lineOf addr) = .apply i := hp
        simp only [State.waitsForFetch, hp]
        exact Bool.false_ne_true
      refine ⟨fun i hi => ?_, fun i h q hi hq => ?_, fun i h q d hi hq => ?_, fun i h copy image mark hi hq hw => ?_,
        fun i h copy image mark dirty sent d hi hq hw => ?_⟩
      · rw [if_pos (hwaits fun j hj => by cases hi.symm.trans hj), addOutstanding_free ht,
          accept_openAt waiting ⟨l, w⟩ _ i hi]
      · rw [if_pos (hwaits fun j hj => by cases hi.symm.trans hj), addOutstanding_free ht,
          accept_fetchWait waiting ⟨l, w⟩ h _ i q hi hq]
      · rw [if_pos (hwaits fun j hj => by cases hi.symm.trans hj), addOutstanding_free ht,
          accept_fetching waiting ⟨l, w⟩ h _ i q d hi hq]
      · rw [if_neg (happlies hi), accept_wbWait s ⟨l, w⟩ h _ i copy image mark hi hq,
          applyItem_read_free (by rw [hw]; exact hr) ht]
        rfl
      · rw [if_neg (happlies hi), accept_writing s ⟨l, w⟩ h _ i copy image mark dirty sent d hi hq,
          applyItem_read_free (by rw [hw]; exact hr) ht]
        rfl
  · intro w value hfit
    have hvalue : r.clearedValue i = value := clearedValue_eq hfit i
    refine ⟨fun hdata => ?_, fun hheld => ?_⟩
    · rw [WindowRecord.clearedLine, laneBits_clearInPlace hi, laneBits_clearInPlace hi, if_pos hdata,
        if_pos hdata, hvalue]
      exact ⟨rfl, rfl⟩
    · rw [WindowRecord.clearedLine, laneBits_clearInPlace hi, laneBits_clearInPlace hi, if_neg (Nat.not_lt.2 hheld),
        if_neg (Nat.not_lt.2 hheld)]
      exact ⟨rfl, laneBits_zero _ _⟩

end Sys2Proof.Machine
end

section
/-!
SUPPORT. The live settings taken from accepted writes (R116, R144, R150).
-/

namespace Sys2Proof.Machine

variable {s t u : State} {w : WindowNo} {e : Enables} {data : Line} {tag : UpTag}

/-! ### Intervals taken (R144, R150) -/

/-- One interval of a write: judged, and its counter restarted. -/
def State.takeInterval (s : State) (w : WindowNo) : State := (s.judgeInterval w).restartInterval w

theorem takeIntervals_eq (line : Nat) :
    s.takeIntervals line e = (touchedWindows line e).foldl State.takeInterval s := rfl

/-- What the taking of intervals leaves as it was. -/
def State.settingFrame (s : State) :=
  (s.live, s.windows, s.outstanding, s.passQueue, s.sweepQueue, s.intervalDue)

theorem takeInterval_settingFrame (w : WindowNo) : (s.takeInterval w).settingFrame = s.settingFrame := by
  simp [State.takeInterval, State.settingFrame]

theorem foldl_takeInterval_settingFrame (ws : List WindowNo) :
    (ws.foldl State.takeInterval s).settingFrame = s.settingFrame := by
  induction ws generalizing s with
  | nil => rfl
  | cons x ws ih => rw [List.foldl_cons, ih, takeInterval_settingFrame]

theorem loadedInterval_congr (h : t.settingFrame = s.settingFrame) (w : WindowNo) :
    t.loadedInterval w = s.loadedInterval w := by
  simp only [State.settingFrame, Prod.mk.injEq] at h
  obtain ⟨hlive, hwindows, -⟩ := h
  rw [State.loadedInterval, State.loadedInterval, inService_congr hwindows, hlive]

theorem takeInterval_intervals (x : WindowNo) : (s.takeInterval x).intervals[w] =
    if w = x then s.loadedInterval w else s.intervals[w] := by
  have hloaded : (s.judgeInterval x).loadedInterval x = s.loadedInterval x :=
    loadedInterval_congr (by simp [State.settingFrame]) x
  have hat : (s.takeInterval x).intervals[w] = (s.intervals.set x (s.loadedInterval x))[w] := by
    simp only [State.takeInterval, State.restartInterval, hloaded, judgeInterval_keeps]
  refine hat.trans ?_
  by_cases hw : w = x
  · subst hw
    simp
  · have hne : x.val ≠ w.val := fun h => hw (Fin.ext h.symm)
    rw [if_neg hw]
    exact Vector.getElem_set_ne _ _ hne

/-- The counters of the windows touched restart, the others run on. -/
theorem foldl_takeInterval_intervals (ws : List WindowNo) : (ws.foldl State.takeInterval s).intervals[w] =
    if w ∈ ws then s.loadedInterval w else s.intervals[w] := by
  induction ws generalizing s with
  | nil => rfl
  | cons x ws ih =>
    rw [List.foldl_cons, ih, loadedInterval_congr (takeInterval_settingFrame x), takeInterval_intervals]
    by_cases hx : w = x
    · subst hx
      simp
    · simp [hx]

theorem takeInterval_setupFault (h : intervalInvalid (s.live.intervalField w) = true) :
    (s.takeInterval w).flags.part.getLsbD 0 = true := by
  have hjudged : (s.judgeInterval w).flags.part.getLsbD 0 = true := by
    rw [State.judgeInterval, if_pos h]
    exact setupInvalid_sets ..
  simpa [State.takeInterval] using hjudged

theorem takeInterval_flagsStand (w : WindowNo) (h : s.FlagsStand t) : s.FlagsStand (t.takeInterval w) :=
  (flagsStand_closedUnderUpdates s).frame ((flagsStand_closedUnderUpdates s).judgeInterval w h) rfl

/-- An invalid interval sets SETUP_FAULT. -/
theorem foldl_takeInterval_setupFault {ws : List WindowNo} (hw : w ∈ ws)
    (h : intervalInvalid (s.live.intervalField w) = true) :
    (ws.foldl State.takeInterval s).flags.part.getLsbD 0 = true := by
  induction ws generalizing s with
  | nil => cases hw
  | cons x ws ih =>
    rw [List.foldl_cons]
    by_cases hx : w = x
    · subst hx
      exact (List.foldlRecOn ws State.takeInterval (State.FlagsStand.refl _) fun _ hb v _ =>
        takeInterval_flagsStand v hb).part (takeInterval_setupFault h)
    · have hlive : (s.takeInterval x).live = s.live := by simp [State.takeInterval]
      exact ih ((List.mem_cons.1 hw).resolve_left hx) (by rw [hlive]; exact h)

theorem mem_touchedWindows (line : Nat) : w ∈ touchedWindows line e ↔
    intervalLine w = line ∧ (e.getLsbD (2 * (w.val % 8)) = true ∨ e.getLsbD (2 * (w.val % 8) + 1) = true) := by
  rw [touchedWindows, List.mem_filter, Bool.and_eq_true, beq_iff_eq, bne_iff_ne]
  simp only [List.mem_finRange, true_and, extractLsb'_two_ne_zero_iff]

theorem intervalLine_eq_iff {k : Nat} (hlow : 5 ≤ k) (hhigh : k ≤ 6) :
    intervalLine w = k ↔ w.val / 8 = k - 5 := by
  have hw := w.isLt
  unfold intervalLine
  split <;> omega

/-! ### Settings by line -/

theorem takeSetting_pass {k : Nat} (hk : k ≠ 2) (hp : s.partState ≠ .active) : s.takeSetting k e data = s := by
  rw [State.takeSetting, if_neg hk, if_pos hp]

section

variable (ha : s.partState = .active)

include ha

theorem takeSetting_masks :
    s.takeSetting 4 e data = { s with live := { s.live with masks := mergeBytes e data s.live.masks } } := by
  rw [State.takeSetting, if_neg (by decide), if_neg (not_not.2 ha), if_pos rfl]

theorem takeSetting_low : s.takeSetting 5 e data =
    { s with live := { s.live with intervalsLow := mergeBytes e data s.live.intervalsLow } }.takeIntervals 5 e := by
  rw [State.takeSetting, if_neg (by decide), if_neg (not_not.2 ha), if_neg (by decide), if_pos rfl]

theorem takeSetting_high : s.takeSetting 6 e data =
    { s with live := { s.live with intervalsHigh := mergeBytes e data s.live.intervalsHigh } }.takeIntervals 6 e := by
  rw [State.takeSetting, if_neg (by decide), if_neg (not_not.2 ha), if_neg (by decide), if_neg (by decide), if_pos rfl]

end

/-- What the write makes of each window's counter. -/
theorem takeIntervals_window {k : Nat} (hlow : 5 ≤ k) (hhigh : k ≤ 6) (w : WindowNo) :
    let touched := w.val / 8 = k - 5 ∧ (e.getLsbD (2 * (w.val % 8)) = true ∨ e.getLsbD (2 * (w.val % 8) + 1) = true)
    let value := (s.live.intervalField w).toNat
    (¬touched → (s.takeIntervals k e).intervals[w] = s.intervals[w]) ∧
    (touched → (s.inService w).isSome →
      (s.takeIntervals k e).intervals[w] = if 1 ≤ value ∧ value ≤ 9 then 0 else value) ∧
    (touched → s.inService w = none → (s.takeIntervals k e).intervals[w] = 0) ∧
    (touched → 1 ≤ value ∧ value ≤ 9 → (s.takeIntervals k e).flags.part.getLsbD 0 = true) := by
  intro touched value
  have htouched : w ∈ touchedWindows k e ↔ touched := by rw [mem_touchedWindows, intervalLine_eq_iff hlow hhigh]
  rw [takeIntervals_eq, foldl_takeInterval_intervals]
  refine ⟨fun h => if_neg (mt htouched.1 h), fun h hs => ?_, fun h hs => ?_, fun h hv => ?_⟩
  · obtain ⟨r, hr⟩ := Option.isSome_iff_exists.1 hs
    rw [if_pos (htouched.2 h)]
    simp only [State.loadedInterval, hr, LiveCopies.interval, intervalInvalid, decide_eq_true_eq]
    rfl
  · rw [if_pos (htouched.2 h)]
    simp only [State.loadedInterval, hs]
  · exact foldl_takeInterval_setupFault (htouched.2 h) (decide_eq_true hv)

theorem takeIntervals_live (k : Nat) : (s.takeIntervals k e).live = s.live := by
  have hframe := foldl_takeInterval_settingFrame (s := s) (touchedWindows k e)
  rw [State.settingFrame, State.settingFrame, Prod.mk.injEq] at hframe
  exact hframe.1

/-- Settles O29. -/
theorem liveWriteTakesMasksAndIntervals : Obligations.LiveWriteTakesMasksAndIntervals := by
  intro tag k e data s hs hroom hp hlow hhigh
  have ht : s.outstanding.contains tag = false := ((serves_iff s tag).1 hs).2.2.2
  obtain ⟨hqueued, -⟩ := serveControl_write_arrived (k := k) (e := e) (data := data) (head_of_serves hs) ht
    (by simp [hp])
  generalize hv : ({ s with
    passQueue := s.passQueue ++ [⟨tag, s.controlLine k.val, .write e data⟩]
    outstanding := s.outstanding ++ [tag] } : State) = v at hqueued
  refine ⟨_, by rw [exec_liveSettingWrite, finish_arrive_control hs k (by omega), hqueued hroom], ?_⟩
  have hkept : (v.takeSetting k.val e data).outstanding = v.outstanding ∧
      (v.takeSetting k.val e data).passQueue = v.passQueue ∧ (v.takeSetting k.val e data).windows = v.windows ∧
      (v.takeSetting k.val e data).sweepQueue = v.sweepQueue ∧
      (v.takeSetting k.val e data).intervalDue = v.intervalDue := by simp
  obtain ⟨houtstanding, hpass, hwindows, hsweep, hdue⟩ := hkept
  have hpart : v.partState = s.partState := by rw [← hv]
  have hlive : v.live = s.live := by rw [← hv]
  simp only [commit_keeps, houtstanding, hpass, hwindows, hsweep, hdue]
  refine ⟨by rw [← hv], by rw [← hv], by rw [← hv], by rw [← hv], by rw [← hv], fun hp => ?_,
    fun ha => ⟨fun hk => ?_, fun hk => ?_, fun hk => ?_, fun hk w => ?_⟩⟩
  · rw [takeSetting_pass (by omega) (by rw [hpart, hp]; decide), ← hv]
    exact ⟨rfl, rfl, rfl⟩
  · rw [hk, takeSetting_masks (hpart.trans ha), ← hv]
    exact ⟨rfl, rfl⟩
  · rw [hk, takeSetting_low (hpart.trans ha), takeIntervals_live, hlive]
  · rw [hk, takeSetting_high (hpart.trans ha), takeIntervals_live, hlive]
  · obtain hk | hk : k.val = 5 ∨ k.val = 6 := by omega
    · rw [hk, takeSetting_low (hpart.trans ha), takeIntervals_live]
      subst hv
      exact takeIntervals_window (by decide) (by decide) w
    · rw [hk, takeSetting_high (hpart.trans ha), takeIntervals_live]
      subst hv
      exact takeIntervals_window (by decide) (by decide) w

end Sys2Proof.Machine
end

section
/-!
SUPPORT. The commands of the command line (R131, R133, R145, R153 to R160, R172, R173).
-/

namespace Sys2Proof.Machine

variable {s t u : State} {tag : UpTag} {cmd : CommandWrite} {a : SweepAction} {w : WindowNo}

/-! ### Taking a command (R153) -/

/-- A command write that is taken is its command carried out on the state the write leaves. -/
theorem finish_arrive_command (h : s.takesCommand tag = true) (code : Byte) :
    finish s (s.arrive (s.commandRequest tag code cmd)) = .next (s.commit ((s.taken tag code cmd).runCommand
      ⟨code, cmd.window, cmd.action, cmd.swTag, cmd.argument, .none, .running, s.command.count + 1⟩)) := by
  rw [arrive_command s tag code cmd h, finish_some]

theorem exec_arm_of (h : s.takesCommand tag = true) :
    exec (.arm tag cmd) s = .next (s.commit (s.taken tag 0x01 cmd).runArm) :=
  finish_arrive_command h 0x01

theorem exec_disarm_of (h : s.takesCommand tag = true) :
    exec (.disarm tag cmd) s = .next (s.commit (s.taken tag 0x02 cmd).runDisarm) :=
  finish_arrive_command h 0x02

theorem exec_sweep_of (h : s.takesCommand tag = true) :
    exec (.sweep tag cmd) s = .next (s.commit ((s.taken tag 0x04 cmd).runSweep cmd.window cmd.action)) :=
  finish_arrive_command h 0x04

theorem exec_release_of (h : s.takesCommand tag = true) :
    exec (.release tag cmd) s = .next (s.commit ((s.taken tag 0x05 cmd).runRelease cmd.argument)) :=
  finish_arrive_command h 0x05

/-- Settles O32. -/
theorem armEntersLoading : Obligations.ArmEntersLoading := by
  intro tag cmd s h hpass
  have hrun : (s.taken tag 0x01 cmd).runArm = (s.taken tag 0x01 cmd).enterLoading := if_pos hpass
  rw [exec_arm_of h, hrun]
  rfl

/-- Settles O33. -/
theorem disarmEntersDraining : Obligations.DisarmEntersDraining := by
  refine ⟨fun tag cmd s h hactive => ?_, fun sw => ⟨fun hend => if_pos hend, fun hend => ?_⟩⟩
  · have hrun : (s.taken tag 0x02 cmd).runDisarm =
        { (s.taken tag 0x02 cmd).abandonSweeps.resetInputs with intervalDue := 0 }.enter .draining := if_pos hactive
    have hbase : { (s.taken tag 0x02 cmd).abandonSweeps.resetInputs with intervalDue := 0 }.controlBase =
        s.controlBase := by
      simp only [State.controlBase, resetInputs_keeps, abandonSweeps_keeps, State.taken, respond_keeps]
    have hcode : PartState.draining.code.setWidth 32 = (4 : BitVec 32) := rfl
    rw [exec_disarm_of h, hrun, State.enter, hbase, hcode]
    rfl
  · rw [Sweep.atDisarm, if_neg hend]
    refine ⟨rfl, rfl, rfl, rfl, rfl, rfl, fun hfly => ?_, fun hfly => ?_⟩
    · rw [hfly]
      rfl
    · cases hx : sw.inFlight with
      | accepted => exact absurd hx hfly
      | none | claimWaiting => rfl

/-- Settles O36. -/
theorem releaseCommandClaims : Obligations.ReleaseCommandClaims := by
  intro tag cmd s h hactive
  have hrun : (s.taken tag 0x05 cmd).runRelease cmd.argument = if s.listed (lineOf cmd.argument) then
      { s.taken tag 0x05 cmd with releaseClaim := some (lineOf cmd.argument) }
      else (s.taken tag 0x05 cmd).completeCommand .notFound := if_neg (not_not.2 hactive)
  rw [exec_release_of h, hrun]
  exact ⟨fun hl => by rw [if_pos ((listed_iff _).2 hl)], fun hl => by rw [if_neg (mt (listed_iff _).1 hl)]⟩

/-! ### Commands that do nothing (R154) -/

theorem runCommand_bad {c : CommandLine} (hc : c.code = 0 ∨ 7 ≤ c.code.toNat) :
    s.runCommand c = s.completeCommand .badCommand := by
  have hne {x : Byte} (hlow : 0 < x.toNat) (hhigh : x.toNat < 7) : c.code ≠ x := by
    rintro rfl
    obtain h | h := hc
    · rw [h] at hlow
      exact absurd hlow (by decide)
    · omega
  rw [State.runCommand, if_neg (hne (by decide) (by decide)), if_neg (hne (by decide) (by decide)),
    if_neg (hne (by decide) (by decide)), if_neg (hne (by decide) (by decide)), if_neg (hne (by decide) (by decide)),
    if_neg (hne (by decide) (by decide))]

/-- Settles O38. -/
theorem badOrMistimedCommandsDoNothing : Obligations.BadOrMistimedCommandsDoNothing := by
  intro tag cmd s h
  refine ⟨fun code hcode => ?_, fun hactive => ?_, fun hpass => ?_, ?_⟩
  · have hexec : exec (.badCommand tag code cmd) s = finish s (s.arrive (s.commandRequest tag code cmd)) :=
      exec_badCommand ..
    rw [hexec, finish_arrive_command h, runCommand_bad hcode]
  · have hstate : s.partState ≠ .pass := by rw [hactive]; decide
    have hrun : (s.taken tag 0x01 cmd).runArm = (s.taken tag 0x01 cmd).completeCommand .wrongState := if_neg hstate
    rw [exec_arm_of h, hrun]
  · have hstate : s.partState ≠ .active := by rw [hpass]; decide
    refine ⟨?_, ?_, ?_, ?_⟩
    · have hrun : (s.taken tag 0x02 cmd).runDisarm = (s.taken tag 0x02 cmd).completeCommand .wrongState := if_neg hstate
      rw [exec_disarm_of h, hrun]
    · have hrun : (s.taken tag 0x03 cmd).runRearm cmd.window = (s.taken tag 0x03 cmd).completeCommand .wrongState :=
        if_pos hstate
      rw [exec_rearm_of_takesCommand h, hrun]
    · have hrun : (s.taken tag 0x04 cmd).runSweep cmd.window cmd.action =
          (s.taken tag 0x04 cmd).completeCommand .wrongState := if_pos hstate
      rw [exec_sweep_of h, hrun]
    · have hrun : (s.taken tag 0x05 cmd).runRelease cmd.argument =
          (s.taken tag 0x05 cmd).completeCommand .wrongState := if_pos hstate
      rw [exec_release_of h, hrun]
  · refine ⟨_, exec_logReset_of_takesCommand h, ?_, ?_⟩ <;> rw [runLogReset_eq] <;> rfl

/-! ### SWEEP (R133, R158) -/

theorem eligible_iff : s.eligible a w = true ↔ ∃ r, s.inService w = some r ∧ (a = .clear ∨ r.shadowBase ≠ 0) := by
  unfold State.eligible
  split
  · rename_i hnone
    simp [hnone]
  · rename_i r hr
    simp [hr]

/-- The state and the mark of the drops, begun from a mark. -/
theorem foldl_handCounted (qs : List SweepRequest) (b : Bool) :
    qs.foldl (fun acc q => (acc.1.handSweep q, acc.2 || acc.1.dropsSweep q)) (s, b) =
      ((s.handCounted qs).1, b || (s.handCounted qs).2) := by
  induction qs generalizing s b with
  | nil => simp [State.handCounted]
  | cons q qs ih =>
    have hcounted : s.handCounted (q :: qs) = (((s.handSweep q).handCounted qs).1,
        (false || s.dropsSweep q) || ((s.handSweep q).handCounted qs).2) := ih (s := s.handSweep q) _
    rw [List.foldl_cons, ih, hcounted, Bool.false_or, Bool.or_assoc]

/-- Requests handed one by one, each told whether it was dropped. -/
theorem handCounted_cons (q : SweepRequest) (qs : List SweepRequest) : (s.handCounted (q :: qs)).1 =
    ((s.handSweep q).handCounted qs).1 ∧
    (s.handCounted (q :: qs)).2 = (s.dropsSweep q || ((s.handSweep q).handCounted qs).2) := by
  rw [State.handCounted, List.foldl_cons, foldl_handCounted, Bool.false_or]
  exact ⟨rfl, rfl⟩

theorem handCounted_fst (qs : List SweepRequest) : (s.handCounted qs).1 = s.handSweeps qs := by
  induction qs generalizing s with
  | nil => rfl
  | cons q qs ih => rw [(handCounted_cons q qs).1, ih]; rfl

/-- A request handed leaves what another window has queued. -/
theorem handSweep_any_ne {q : SweepRequest} (h : q.window ≠ w) :
    (s.handSweep q).sweepQueue.any (fun p => p.window == w) = s.sweepQueue.any fun p => p.window == w := by
  obtain ⟨hdrop, -⟩ | ⟨hdrop, -⟩ := handSweep_cases s q
  · rw [(handSweep_dropped hdrop).1]
  · rw [handSweep_queued hdrop]
    simp [h]

theorem handSweep_nodup {q : SweepRequest} (hn : (s.sweepQueue.map (·.window)).Nodup) :
    ((s.handSweep q).sweepQueue.map (·.window)).Nodup := by
  obtain ⟨hdrop, -⟩ | ⟨hdrop, -⟩ := handSweep_cases s q
  · rwa [(handSweep_dropped hdrop).1]
  · have hany := (dropsSweep_eq_any hn q).symm.trans hdrop
    rw [handSweep_queued hdrop, List.map_append, List.nodup_append_comm]
    refine List.nodup_cons.2 ⟨fun hmem => ?_, hn⟩
    obtain ⟨p, hp, hw⟩ := List.mem_map.1 hmem
    simpa [hw] using List.any_eq_false.1 hany p hp

/-- Of requests for different windows those whose window has one queued are dropped. -/
theorem handCounted_snd (qs : List SweepRequest) (hn : (s.sweepQueue.map (·.window)).Nodup)
    (hq : (qs.map (·.window)).Nodup) : (s.handCounted qs).2 =
      qs.any fun q => s.sweepQueue.any fun p => p.window == q.window := by
  induction qs generalizing s with
  | nil => rfl
  | cons q qs ih =>
    obtain ⟨hfresh, hq⟩ := List.nodup_cons.1 hq
    have hrest : (qs.any fun r => (s.handSweep q).sweepQueue.any fun p => p.window == r.window) =
        qs.any fun r => s.sweepQueue.any fun p => p.window == r.window := by
      rw [Bool.eq_iff_iff, List.any_eq_true, List.any_eq_true]
      refine exists_congr fun r => and_congr_right fun hr => ?_
      rw [handSweep_any_ne fun hw => hfresh (List.mem_map.2 ⟨r, hr, hw.symm⟩)]
    rw [(handCounted_cons q qs).2, ih (handSweep_nodup hn) hq, hrest, dropsSweep_eq_any hn q, List.any_cons]

/-- A request dropped sets SWEEP_OVERRUN. -/
theorem handCounted_overrun (qs : List SweepRequest) (h : (s.handCounted qs).2 = true) :
    (s.handCounted qs).1.flags.part.getLsbD 7 = true := by
  induction qs generalizing s with
  | nil => cases h
  | cons q qs ih =>
    obtain ⟨hfst, hsnd⟩ := handCounted_cons (s := s) q qs
    rw [hsnd, Bool.or_eq_true] at h
    rw [hfst]
    obtain hdrop | hlater := h
    · rw [handCounted_fst]
      exact ((flagsStand_closedUnderUpdates _).handSweeps qs (.refl _)).part (handSweep_dropped hdrop).2
    · exact ih hlater

/-- The requests of SWEEP for the windows it names. -/
def State.commanded (s : State) (a : SweepAction) (named : List WindowNo) : List SweepRequest :=
  (named.filter (s.eligible a)).map fun w => ⟨w, a, .command⟩

theorem handCommanded_eq (named : List WindowNo) : s.handCommanded a named =
    (s.handCounted (s.commanded a named)).1.completeCommand (if (s.commanded a named).isEmpty then .notSweepable
      else if (s.handCounted (s.commanded a named)).2 then .overrun else .ok) := rfl

theorem handCommanded_outcome (named : List WindowNo) : (s.handCommanded a named).command.state = .done ∧
    (s.handCommanded a named).command.result = (if (s.commanded a named).isEmpty then .notSweepable
      else if (s.handCounted (s.commanded a named)).2 then .overrun else .ok) ∧
    (s.handCommanded a named).sweepQueue = (s.handSweeps (s.commanded a named)).sweepQueue ∧
    ((s.handCounted (s.commanded a named)).2 = true → (s.handCommanded a named).flags.part.getLsbD 7 = true) := by
  refine ⟨rfl, rfl, by rw [← handCounted_fst]; rfl, fun h => ?_⟩
  exact ((flagsStand_closedUnderUpdates _).completeCommand _ (.refl _)).part (handCounted_overrun _ h)

theorem handCommanded_notSweepable (h : ¬s.eligible a w = true) :
    s.handCommanded a [w] = s.completeCommand .notSweepable := by
  have hnone : s.commanded a [w] = [] := by rw [State.commanded, List.filter_cons_of_neg h]; rfl
  rw [handCommanded_eq, hnone]
  rfl

theorem handCommanded_one (h : s.eligible a w = true) : s.handCommanded a [w] =
    (s.handSweep ⟨w, a, .command⟩).completeCommand (if s.dropsSweep ⟨w, a, .command⟩ then .overrun else .ok) := by
  have hone : s.commanded a [w] = [⟨w, a, .command⟩] := by rw [State.commanded, List.filter_cons_of_pos h]; rfl
  obtain ⟨hfst, hsnd⟩ := handCounted_cons (s := s) ⟨w, a, .command⟩ []
  have hdropped : ((s.handSweep ⟨w, a, .command⟩).handCounted []).2 = false := rfl
  rw [handCommanded_eq, hone, hfst, hsnd, hdropped, Bool.or_false]
  rfl

/-- The action of a commanded sweep for a window in service, where it is eligible. -/
def commandedAction (a : SweepAction) (r : WindowRecord) : Option SweepAction :=
  if a = .clear ∨ r.shadowBase ≠ 0 then some a else none

theorem commanded_all (s : State) (a : SweepAction) :
    s.commanded a (List.finRange 16) = s.requestsFor .command (commandedAction a) := by
  rw [State.commanded, State.requestsFor, ← List.filterMap_eq_filter, List.map_filterMap]
  refine List.filterMap_congr fun w _ => ?_
  have hguard : Option.map (fun w => (⟨w, a, .command⟩ : SweepRequest)) (Option.guard (s.eligible a) w) =
      if s.eligible a w then some ⟨w, a, .command⟩ else none := by
    rw [Option.guard]
    split <;> rfl
  rw [hguard]
  cases hs : s.inService w with
  | none =>
    rw [if_neg fun he => by obtain ⟨r, hr, -⟩ := eligible_iff.1 he; cases hs.symm.trans hr]
  | some r =>
    by_cases h : a = .clear ∨ r.shadowBase ≠ 0
    · rw [if_pos (eligible_iff.2 ⟨r, hs, h⟩)]
      simp only [commandedAction, if_pos h, Option.map_some]
    · rw [if_neg fun he => by obtain ⟨x, hx, hok⟩ := eligible_iff.1 he; cases hs.symm.trans hx; exact h hok]
      simp only [commandedAction, if_neg h, Option.map_none]

/-- What SWEEP adds to the queue where it names all windows. -/
theorem handSweeps_commanded_all (hn : (s.sweepQueue.map (·.window)).Nodup) :
    (s.handSweeps (s.commanded a (List.finRange 16))).sweepQueue =
      s.sweepQueue ++ (List.finRange 16).filterMap fun w =>
        if s.sweepQueue.any (fun p => p.window == w) then none
        else (s.inService w).bind fun r => if a = .clear ∨ r.shadowBase ≠ 0 then some ⟨w, a, .command⟩ else none := by
  rw [commanded_all, handSweeps_requestsFor hn]
  refine congrArg _ (List.filterMap_congr fun w _ => ?_)
  split
  · rfl
  · cases s.inService w with
    | none => rfl
    | some r =>
      dsimp only [Option.bind_some, commandedAction]
      split <;> rfl

theorem commanded_isEmpty_iff : (s.commanded a (List.finRange 16)).isEmpty = true ↔ ∀ w, ¬s.eligible a w = true := by
  simp [State.commanded, List.isEmpty_iff]

/-- A commanded request is dropped where an eligible window has one queued. -/
theorem handCounted_commanded_all (hn : (s.sweepQueue.map (·.window)).Nodup) :
    (s.handCounted (s.commanded a (List.finRange 16))).2 = true ↔
      ∃ w, s.eligible a w = true ∧ (s.sweepQueue.any fun p => p.window == w) = true := by
  rw [handCounted_snd _ hn (by rw [commanded_all]; exact requestsFor_windows_nodup _ _), State.commanded, List.any_map,
    List.any_eq_true]
  simp only [List.mem_filter, List.mem_finRange, true_and, Function.comp_apply]

section

variable {window action : Byte} (hact : s.partState = .active)

include hact

theorem runSweep_badAction (h : action ∉ ([1, 2, 3] : List Byte)) :
    s.runSweep window action = s.completeCommand .badAction := by
  have hnone : SweepAction.ofCode action = none := by
    simp only [List.mem_cons, List.not_mem_nil, or_false, not_or] at h
    obtain ⟨h1, h2, h3⟩ := h
    rw [SweepAction.ofCode, if_neg h1, if_neg h2, if_neg h3]
  rw [State.runSweep, if_neg (not_not.2 hact), hnone]

variable (ha : SweepAction.ofCode action = some a)

include ha

theorem runSweep_all : s.runSweep 0xFF action = s.handCommanded a (List.finRange 16) := by
  rw [State.runSweep, if_neg (not_not.2 hact), ha]
  rfl

theorem runSweep_badWindow (hlo : 16 ≤ window.toNat) (hhi : window.toNat ≤ 0xFE) :
    s.runSweep window action = s.completeCommand .badWindow := by
  rw [State.runSweep, if_neg (not_not.2 hact), ha]
  simp only [if_neg (ne_allWindows_of_toNat_le hhi), windowNamed_eq_none_iff.2 hlo]

theorem runSweep_window (hw : window.toNat = w.val) : s.runSweep window action = s.handCommanded a [w] := by
  have hlt := w.isLt
  rw [State.runSweep, if_neg (not_not.2 hact), ha]
  simp only [if_neg (ne_allWindows_of_toNat_le (b := window) (by omega)), windowNamed_eq_some_iff.2 hw]

end

theorem dropsSweep_of_room {q : SweepRequest} (h : (s.sweepQueue.any fun p => p.window == q.window) = false)
    (hroom : s.sweepQueue.length < 16) : s.dropsSweep q = false := by
  rw [State.dropsSweep, h, Bool.false_or]
  exact decide_eq_false (Nat.not_le.2 hroom)

theorem dropsSweep_of_queued {q : SweepRequest} (h : (s.sweepQueue.any fun p => p.window == q.window) = true) :
    s.dropsSweep q = true := by
  rw [State.dropsSweep, h, Bool.true_or]

/-- Settles O35. -/
theorem sweepCommandHandsRequests : Obligations.SweepCommandHandsRequests := by
  intro tag cmd s h hactive
  have hact : (s.taken tag 0x04 cmd).partState = .active := hactive
  rw [exec_sweep_of h]
  refine ⟨fun hbad => by rw [runSweep_badAction hact hbad], fun a ha => ?_⟩
  intro eligible queued
  have heligible (w : WindowNo) : (s.taken tag 0x04 cmd).eligible a w = true ↔ eligible w := eligible_iff (s := s)
  refine ⟨fun hlo hhi => by rw [runSweep_badWindow hact ha hlo hhi], fun w hw => ⟨fun he => ?_,
    fun he hq hroom => ?_, fun he hq r hr => ?_⟩, fun hall hn => ?_⟩
  · rw [runSweep_window hact ha hw, handCommanded_notSweepable (mt (heligible w).1 he)]
  · have hdrop : (s.taken tag 0x04 cmd).dropsSweep ⟨w, a, .command⟩ = false := dropsSweep_of_room hq hroom
    rw [runSweep_window hact ha hw, handCommanded_one ((heligible w).2 he), handSweep_queued hdrop, hdrop]
    rfl
  · have hdrop : (s.taken tag 0x04 cmd).dropsSweep ⟨w, a, .command⟩ = true := dropsSweep_of_queued hq
    have hbase : (s.taken tag 0x04 cmd).windowBase w = r.base := by
      simp only [State.windowBase, taken_record, hr]
    rw [runSweep_window hact ha hw, handCommanded_one ((heligible w).2 he), State.handSweep, if_pos hdrop, if_pos hdrop,
      hbase]
    rfl
  · rw [hall, runSweep_all hact ha]
    generalize hv : s.taken tag 0x04 cmd = v at heligible
    have hqueue : v.sweepQueue = s.sweepQueue := by rw [← hv]; rfl
    have hservice (w : WindowNo) : v.inService w = s.inService w := by rw [← hv]; rfl
    have hdropped := handCounted_commanded_all (s := v) (a := a) (by rw [hqueue]; exact hn)
    have hadded := handSweeps_commanded_all (s := v) (a := a) (by rw [hqueue]; exact hn)
    simp only [hqueue, hservice, heligible] at hdropped hadded
    obtain ⟨hdone, hresult, hsweeps, hoverrun⟩ := handCommanded_outcome (s := v) (a := a) (List.finRange 16)
    refine ⟨_, rfl, ?_⟩
    simp only [commit_keeps, handCommanded_keeps]
    refine ⟨hdone, by rw [← hv]; rfl, by rw [← hv]; rfl, by rw [← hv]; rfl, by rw [← hv]; rfl, hsweeps.trans hadded,
      fun hnone => ?_, fun hsome => ?_, fun hsome hroom => ?_⟩
    · rw [hresult, if_pos (commanded_isEmpty_iff.2 fun w => mt (heligible w).1 (hnone w))]
    · have hdrop := hdropped.2 hsome
      obtain ⟨w, he, -⟩ := hsome
      have hany : ¬(v.commanded a (List.finRange 16)).isEmpty = true := fun h =>
        commanded_isEmpty_iff.1 h w ((heligible w).2 he)
      refine ⟨?_, hoverrun hdrop⟩
      rw [hresult, if_neg hany, if_pos hdrop]
    · obtain ⟨w, he⟩ := hsome
      have hany : ¬(v.commanded a (List.finRange 16)).isEmpty = true := fun h =>
        commanded_isEmpty_iff.1 h w ((heligible w).2 he)
      have hkept : ¬(v.handCounted (v.commanded a (List.finRange 16))).2 = true := fun h => by
        obtain ⟨x, hx, hq⟩ := hdropped.1 h
        exact Bool.false_ne_true ((hroom x hx).symm.trans hq)
      rw [hresult, if_neg hany, if_neg hkept]

end Sys2Proof.Machine
end

section
/-!
SUPPORT. What an UPDATE leaves in each lane, and the crossings it counts (R49 to R62, R68, R113, R114).
-/

namespace Sys2Proof.Machine

variable {s t u : State} {w : WindowNo} {r : WindowRecord} {line : LineAddr} {lanes : BitVec 8} {data copy : Line}

/-! ### Crossings (R113, R114) -/

/-- Whether a watched value crosses the window's threshold. -/
def WindowRecord.crosses (r : WindowRecord) (v : Watched) : Bool :=
  decide (v.before < r.thresholdValue ∧ r.thresholdValue ≤ v.after)

/-- A crossing in FIRST mode: counted while the crossing-armed flag is set, which it clears. -/
def State.countFirst (s : State) (w : WindowNo) (line : LineAddr) (v : Watched) : State :=
  if s.windows[w].armed then (s.setWindow w { s.windows[w] with armed := false }).countCrossing w line v else s

theorem testCrossing_each (hm : r.crossingMode = .each) (v : Watched) :
    s.testCrossing w r line v = if r.crosses v then s.countCrossing w line v else s := by
  simp only [State.testCrossing, WindowRecord.crosses, hm, decide_eq_true_eq]

theorem testCrossing_first (hm : r.crossingMode = .first) (v : Watched) :
    s.testCrossing w r line v = if r.crosses v then s.countFirst w line v else s := by
  simp only [State.testCrossing, WindowRecord.crosses, hm, decide_eq_true_eq, State.countFirst]

theorem testCrossings_each (hm : r.crossingMode = .each) (vs : List Watched) : s.testCrossings w r line vs =
    (vs.filter r.crosses).foldl (fun acc v => acc.countCrossing w line v) s := by
  simp only [State.testCrossings, List.foldl_filter, testCrossing_each hm]

theorem testCrossings_first (hm : r.crossingMode = .first) (vs : List Watched) : s.testCrossings w r line vs =
    (vs.filter r.crosses).foldl (fun acc v => acc.countFirst w line v) s := by
  simp only [State.testCrossings, List.foldl_filter, testCrossing_first hm]

theorem foldl_countFirst_disarmed (vs : List Watched) (h : s.windows[w].armed = false) :
    vs.foldl (fun acc v => acc.countFirst w line v) s = s := by
  induction vs with
  | nil => rfl
  | cons v vs ih =>
    have hstep : s.countFirst w line v = s := by
      rw [State.countFirst, h]
      rfl
    rw [List.foldl_cons, hstep, ih]

/-- The first crossing is counted and the others are not. -/
theorem foldl_countFirst_armed (v : Watched) (vs : List Watched) (h : s.windows[w].armed = true) :
    (v :: vs).foldl (fun acc v => acc.countFirst w line v) s =
      (s.setWindow w { s.windows[w] with armed := false }).countCrossing w line v := by
  have hstep : s.countFirst w line v = (s.setWindow w { s.windows[w] with armed := false }).countCrossing w line v :=
    if_pos h
  rw [List.foldl_cons, hstep]
  refine foldl_countFirst_disarmed vs ?_
  simp [State.countCrossing, State.setWindow]

theorem thresholdValue_eq (r : WindowRecord) : r.thresholdValue =
    if r.function = .difference ∨ r.format = .s16 then r.threshold.toInt else (r.threshold.toNat : Int) := by
  unfold WindowRecord.thresholdValue
  cases r.function <;> cases r.format <;> rfl

/-! ### Watched values (Table 4-4) -/

/-- The lanes whose values an UPDATE watches. -/
def WindowRecord.watchedLanes (r : WindowRecord) (lanes : BitVec 8) : List Nat :=
  match r.function with
  | .accumulate | .weighted => enabledLanes r.format lanes
  | .extreme => [2]
  | .difference => (enabledPairs r.format lanes).map (· + 1)

/-- A watched lane's value: its magnitude in a DIFFERENCE window. -/
def WindowRecord.watchedValue (r : WindowRecord) (l : Line) (i : Nat) : Int :=
  if r.function = .difference then ((readLane true r.format.width i l).natAbs : Int)
  else readLane r.format.signed r.format.width i l

theorem watched_eq (before after : Line) : r.watched lanes before after =
    (r.watchedLanes lanes).map fun i => ⟨i, r.watchedValue before i, r.watchedValue after i⟩ := by
  unfold WindowRecord.watched WindowRecord.watchedLanes WindowRecord.watchedValue
  cases r.function with
  | accumulate | weighted | extreme => rfl
  | difference =>
    simp only [List.map_map]
    rfl

/-- The watched lanes that cross. -/
def WindowRecord.crossingLanes (r : WindowRecord) (lanes : BitVec 8) (before after : Line) : List Nat :=
  (r.watchedLanes lanes).filter fun i =>
    decide (r.watchedValue before i < r.thresholdValue ∧ r.thresholdValue ≤ r.watchedValue after i)

theorem watched_filter_crosses (before after : Line) : (r.watched lanes before after).filter r.crosses =
    (r.crossingLanes lanes before after).map fun i => ⟨i, r.watchedValue before i, r.watchedValue after i⟩ := by
  rw [watched_eq, List.filter_map]
  rfl

/-! ### One UPDATE -/

theorem applyItem_update_of {h : Hold} (hr : s.record h.window = some r) {o : UpdateOrigin} (ho : o ≠ .cmd) :
    s.applyItem h (.update o data lanes) copy = (r.update s.tick lanes data copy,
      if r.crossingMode = .off then s
      else s.testCrossings h.window r h.line (r.watched lanes copy (r.update s.tick lanes data copy))) := by
  rw [applyItem_update hr, State.applyUpdate, if_neg ho]

/-! ### Lanes (R51, R52, R55, R60, R62) -/

theorem Format.width_pos (f : Format) : 0 < f.width := by cases f <;> decide

theorem patternValue_saturate (sg : Bool) {w : Nat} (hw : 0 < w) (v : Int) :
    patternValue sg (BitVec.ofInt w (saturate sg w v)) = saturate sg w v :=
  patternValue_ofInt sg w _ hw (laneMin_le_saturate sg w v) (saturate_le_laneMax sg w v)

/-- A lane of ACCUMULATE and WEIGHTED. -/
theorem lane_addLanes (f : Format) (factor : Nat → Int) {i : Nat} (hi : i < f.lanes) :
    (lanes.getLsbD i = true → readLane f.signed f.width i (addLanes f factor lanes data copy) =
      saturate f.signed f.width (readLane f.signed f.width i copy + factor i * readLane f.signed f.width i data)) ∧
    (lanes.getLsbD i = false → laneBits f.width i (addLanes f factor lanes data copy) = laneBits f.width i copy) := by
  refine ⟨fun hon => ?_, fun hoff => ?_⟩
  · rw [readLane, laneBits_addLanes f factor lanes data copy i hi, if_pos hon, patternValue_saturate _ f.width_pos]
  · rw [laneBits_addLanes f factor lanes data copy i hi, hoff, if_neg Bool.false_ne_true]

/-- An unsigned sum does not fall below its first part. -/
theorem le_saturate_add {w : Nat} (i : Nat) :
    readLane false w i copy ≤ saturate false w (readLane false w i copy + readLane false w i data) := by
  obtain ⟨-, hcopy⟩ := patternValue_range false (laneBits w i copy)
  obtain ⟨hdata, -⟩ := patternValue_range false (laneBits w i data)
  have hmin : laneMin false w = 0 := rfl
  rw [hmin] at hdata
  refine le_max_of_le_right (le_min hcopy ?_)
  exact le_add_of_nonneg_right hdata

/-- What a DIFFERENCE item writes to a lane: the sample, or in an odd lane the saturated difference. -/
def differenceValue (f : Format) (data copy : Line) (i : Nat) : Int :=
  if i % 2 = 0 then readLane f.signed f.width i data
  else saturate true f.width (readLane f.signed f.width (i - 1) data - readLane f.signed f.width (i - 1) copy)

theorem mem_enabledPairs (f : Format) (i : Nat) :
    i ∈ enabledPairs f lanes ↔ (i < f.lanes ∧ lanes.getLsbD i = true) ∧ i % 2 = 0 := by
  rw [enabledPairs, List.mem_filter, mem_enabledLanes, beq_iff_eq]

/-- A DIFFERENCE item writes the two lanes of each pair, the odd one first. -/
theorem differenceUpdate_eq (f : Format) : differenceUpdate f lanes data copy =
    ((enabledPairs f lanes).flatMap fun e => [e + 1, e]).foldl
      (fun acc i => writeLane f.width i (differenceValue f data copy i) acc) copy := by
  rw [List.foldl_flatMap, differenceUpdate]
  refine List.foldl_ext _ _ _ fun acc e he => ?_
  obtain ⟨-, heven⟩ := (mem_enabledPairs f e).1 he
  have hodd : (e + 1) % 2 ≠ 0 := by omega
  simp only [List.foldl_cons, List.foldl_nil, differenceValue, if_pos heven, if_neg hodd, Nat.add_sub_cancel]

theorem laneBits_differenceUpdate (f : Format) {j : Nat} (hj : j < f.lanes) :
    laneBits f.width j (differenceUpdate f lanes data copy) =
      if j - j % 2 ∈ enabledPairs f lanes then BitVec.ofInt f.width (differenceValue f data copy j)
      else laneBits f.width j copy := by
  have hmem : j ∈ ((enabledPairs f lanes).flatMap fun e => [e + 1, e]) ↔ j - j % 2 ∈ enabledPairs f lanes := by
    simp only [List.mem_flatMap, List.mem_cons, List.not_mem_nil, or_false]
    refine ⟨fun ⟨e, he, hje⟩ => ?_, fun h => ⟨_, h, by omega⟩⟩
    obtain ⟨-, heven⟩ := (mem_enabledPairs f e).1 he
    rwa [show j - j % 2 = e by omega]
  rw [differenceUpdate_eq, laneBits_foldl_writeLane _ _ _ _ _ (f.lane_fits hj)]
  simp only [hmem]

/-- The two lanes of a DIFFERENCE pair. -/
theorem lanes_differenceUpdate (f : Format) {i : Nat} (hi : i < f.lanes) (heven : i % 2 = 0) :
    (lanes.getLsbD i = true → laneBits f.width i (differenceUpdate f lanes data copy) = laneBits f.width i data ∧
      readLane true f.width (i + 1) (differenceUpdate f lanes data copy) =
        saturate true f.width (readLane f.signed f.width i data - readLane f.signed f.width i copy)) ∧
    (lanes.getLsbD i = false → laneBits f.width i (differenceUpdate f lanes data copy) = laneBits f.width i copy ∧
      laneBits f.width (i + 1) (differenceUpdate f lanes data copy) = laneBits f.width (i + 1) copy) := by
  have hodd : i + 1 < f.lanes := by
    have hlanes : f.lanes % 2 = 0 := by cases f <;> rfl
    omega
  have hpair : i + 1 - (i + 1) % 2 = i ∧ i - i % 2 = i ∧ (i + 1) % 2 ≠ 0 := by omega
  obtain ⟨hfirst, hself, hne⟩ := hpair
  have hmem : i ∈ enabledPairs f lanes ↔ lanes.getLsbD i = true := by
    rw [mem_enabledPairs]
    exact ⟨fun h => h.1.2, fun h => ⟨⟨hi, h⟩, heven⟩⟩
  rw [readLane, laneBits_differenceUpdate f hi, laneBits_differenceUpdate f hodd, hfirst, hself]
  refine ⟨fun hon => ?_, fun hoff => ?_⟩
  · rw [if_pos (hmem.2 hon), if_pos (hmem.2 hon), differenceValue, if_pos heven, differenceValue, if_neg hne,
      Nat.add_sub_cancel, patternValue_saturate _ f.width_pos]
    exact ⟨ofInt_patternValue _ _, rfl⟩
  · have hnot : i ∉ enabledPairs f lanes := fun h => by simp [hmem.1 h] at hoff
    rw [if_neg hnot, if_neg hnot]
    exact ⟨rfl, rfl⟩

/-- Settles O54. -/
theorem updatesComputeEachLane : Obligations.UpdatesComputeEachLane := by
  refine ⟨fun s h r o data copy lanes hr => ?_, fun r tick lanes data copy i hi => ?_⟩
  · intro new enabled watched value threshold crossing count disarmed
    have hwatched : watched = r.watchedLanes lanes := by
      simp only [watched, WindowRecord.watchedLanes]
      cases r.function <;> rfl
    have hthreshold : threshold = r.thresholdValue := (thresholdValue_eq r).symm
    have hcrossing : crossing = r.crossingLanes lanes copy new := by
      simp only [crossing, hwatched, hthreshold]
      rfl
    refine ⟨by rw [applyItem_update hr]; rfl, fun ho => ?_⟩
    rw [applyItem_update_of hr ho]
    refine ⟨fun hm => by rw [if_pos hm], fun hm => ?_, fun hm hnone => ?_, fun hm harmed i rest hfirst => ?_⟩
    · rw [if_neg (by rw [hm]; decide), testCrossings_each hm, watched_filter_crosses, List.foldl_map, hcrossing]
      rfl
    · rw [if_neg (by rw [hm]; decide), testCrossings_first hm, watched_filter_crosses]
      obtain hdisarmed | hempty := hnone
      · rw [foldl_countFirst_disarmed _ hdisarmed]
      · rw [show r.crossingLanes lanes copy (r.update s.tick lanes data copy) = [] from hcrossing.symm.trans hempty]
        rfl
    · rw [if_neg (by rw [hm]; decide), testCrossings_first hm, watched_filter_crosses,
        show r.crossingLanes lanes copy (r.update s.tick lanes data copy) = i :: rest from hcrossing.symm.trans hfirst,
        List.map_cons, foldl_countFirst_armed _ _ harmed]
      rfl
  · intro w sg new
    refine ⟨fun hf => ?_, fun hf => ?_, fun hf heven => ?_⟩
    · have hnew : new = addLanes r.format (fun _ => 1) lanes data copy := by
        simp only [new, WindowRecord.update, hf]
      obtain ⟨hon, hoff⟩ := lane_addLanes (lanes := lanes) (data := data) (copy := copy) r.format (fun _ => 1) hi
      simp only [one_mul] at hon
      rw [← hnew] at hon hoff
      refine ⟨hon, hoff, fun hunsigned => ?_⟩
      cases hl : lanes.getLsbD i with
      | true =>
        rw [hon hl, show r.format.signed = false from hunsigned, hunsigned]
        exact le_saturate_add i
      | false => rw [readLane, readLane, hoff hl]
    · have hnew : new = addLanes r.format r.weight lanes data copy := by
        simp only [new, WindowRecord.update, hf]
      rw [hnew]
      exact lane_addLanes r.format r.weight hi
    · have hnew : new = differenceUpdate r.format lanes data copy := by
        simp only [new, WindowRecord.update, hf]
      rw [hnew]
      exact lanes_differenceUpdate r.format hi heven

end Sys2Proof.Machine
end

section
/-!
SUPPORT. What an UPDATE leaves in an EXTREME line (R57 to R59).
-/

namespace Sys2Proof.Machine

variable {f : Format} {tick : BitVec 32} {lanes : BitVec 8} {data copy l : Line} {better : Int → Int → Bool}

/-! ### The sample picked (R58) -/

theorem foldl_pick_mem (x : Sample) (xs : List Sample) :
    xs.foldl (fun best y => if better y.2 best.2 then y else best) x ∈ x :: xs := by
  induction xs generalizing x with
  | nil => exact List.mem_cons_self
  | cons y ys ih =>
    rw [List.foldl_cons]
    split
    · exact List.mem_cons_of_mem _ (ih y)
    · obtain h | h := List.mem_cons.1 (ih x)
      · rw [h]
        exact List.mem_cons_self
      · exact List.mem_cons_of_mem _ (List.mem_cons_of_mem _ h)

theorem foldl_pick_stays {x : Sample} {xs : List Sample} (h : ∀ y ∈ xs, better y.2 x.2 = false) :
    xs.foldl (fun best y => if better y.2 best.2 then y else best) x = x := by
  induction xs with
  | nil => rfl
  | cons y ys ih =>
    have hy : ¬better y.2 x.2 = true := by
      rw [h y List.mem_cons_self]
      exact Bool.false_ne_true
    rw [List.foldl_cons, if_neg hy]
    exact ih fun z hz => h z (List.mem_cons_of_mem _ hz)

theorem pickSample_mem {xs : List Sample} {x : Sample} (h : pickSample better xs = some x) : x ∈ xs := by
  cases xs with
  | nil => cases h
  | cons y ys =>
    cases h
    exact foldl_pick_mem y ys

/-- The sample that is better than those before it, and than which none is better. -/
theorem pickSample_eq {xs ys : List Sample} {x : Sample} (hbefore : ∀ y ∈ xs, better x.2 y.2 = true)
    (hafter : ∀ y ∈ ys, better y.2 x.2 = false) : pickSample better (xs ++ x :: ys) = some x := by
  cases xs with
  | nil => exact congrArg some (foldl_pick_stays hafter)
  | cons z zs =>
    have hbest := hbefore _ (foldl_pick_mem (better := better) z zs)
    rw [List.cons_append, pickSample, List.foldl_append, List.foldl_cons, if_pos hbest, foldl_pick_stays hafter]

theorem mem_samplesOf {x : Sample} : x ∈ samplesOf f lanes data ↔
    x.1 < f.lanes ∧ lanes.getLsbD x.1 = true ∧ x.2 = readLane f.signed f.width x.1 data := by
  obtain ⟨i, v⟩ := x
  simp only [samplesOf, List.mem_map, mem_enabledLanes, Prod.mk.injEq]
  constructor
  · rintro ⟨j, ⟨hj, hon⟩, rfl, rfl⟩
    exact ⟨hj, hon, rfl⟩
  · rintro ⟨hi, hon, rfl⟩
    exact ⟨i, ⟨hi, hon⟩, rfl, rfl⟩

/-- An enabled lane's sample stands after those of the lanes below it. -/
theorem samplesOf_split {i : Nat} (hi : i < f.lanes) (hon : lanes.getLsbD i = true) : ∃ xs ys,
    samplesOf f lanes data = xs ++ (i, readLane f.signed f.width i data) :: ys ∧ ∀ y ∈ xs, y.1 < i := by
  obtain ⟨is, js, hsplit⟩ := List.append_of_mem ((mem_enabledLanes f lanes i).2 ⟨hi, hon⟩)
  have hsorted : (enabledLanes f lanes).Pairwise (· < ·) := List.pairwise_lt_range.filter _
  rw [hsplit, List.pairwise_append] at hsorted
  obtain ⟨-, -, hlt⟩ := hsorted
  refine ⟨is.map fun i => (i, readLane f.signed f.width i data), js.map fun i => (i, readLane f.signed f.width i data),
    by rw [samplesOf, hsplit, List.map_append, List.map_cons], fun y hy => ?_⟩
  obtain ⟨j, hj, rfl⟩ := List.mem_map.1 hy
  exact hlt j hj i List.mem_cons_self

/-! ### An extreme kept (R58) -/

/-- The line after the samples met the stored extreme of lane `at0`. -/
def keepExtreme (better : Int → Int → Bool) (at0 tickLane : Nat) (tick : BitVec 32) (samples : List Sample)
    (stored : Int) (l : Line) : Line :=
  match pickSample better samples with
  | some x => if better x.2 stored then storeExtreme at0 tickLane tick x l else l
  | none => l

/-- The three parts of an EXTREME update: minimum, maximum and count. -/
theorem extremeUpdate_eq : extremeUpdate f tick lanes data copy =
    writeLane 16 4 (saturate false 16 (readLane false 16 4 copy + (samplesOf f lanes data).length))
      (keepExtreme (fun a b => decide (b < a)) 2 6 tick (samplesOf f lanes data) (readLane f.signed 16 2 copy)
        (keepExtreme (fun a b => decide (a < b)) 0 5 tick (samplesOf f lanes data) (readLane f.signed 16 0 copy)
          copy)) := by
  simp only [extremeUpdate, keepExtreme, decide_eq_true_eq] <;> rfl

theorem keepExtreme_other {at0 tickLane : Nat} {samples : List Sample} {stored : Int} {j : Nat} (hj : j < 8)
    (h0 : at0 ≠ j) (h1 : at0 + 1 ≠ j) (ht : tickLane ≠ j) :
    laneBits 16 j (keepExtreme better at0 tickLane tick samples stored l) = laneBits 16 j l := by
  have hfit : j * 16 + 16 ≤ 128 := by omega
  unfold keepExtreme
  split
  · split
    · rw [storeExtreme, laneBits_writeLane_ne 16 _ _ _ _ ht hfit, laneBits_writeLane_ne 16 _ _ _ _ h1 hfit,
        laneBits_writeLane_ne 16 _ _ _ _ h0 hfit]
    · rfl
  · rfl

theorem keepExtreme_none {at0 tickLane : Nat} {samples : List Sample} {stored : Int}
    (h : ∀ x ∈ samples, better x.2 stored = false) : keepExtreme better at0 tickLane tick samples stored l = l := by
  unfold keepExtreme
  split
  · rename_i x hx
    rw [h x (pickSample_mem hx)]
    rfl
  · rfl

theorem storeExtreme_lanes {at0 tickLane : Nat} {x : Sample} (hat : at0 + 1 < 8) (htick : tickLane < 8)
    (h0 : at0 ≠ tickLane) (h1 : at0 + 1 ≠ tickLane) :
    laneBits 16 at0 (storeExtreme at0 tickLane tick x l) = BitVec.ofInt 16 x.2 ∧
    laneBits 16 (at0 + 1) (storeExtreme at0 tickLane tick x l) = BitVec.ofInt 16 x.1 ∧
    laneBits 16 tickLane (storeExtreme at0 tickLane tick x l) = tick.extractLsb' 0 16 := by
  have hfit0 : at0 * 16 + 16 ≤ 128 := by omega
  have hfit1 : (at0 + 1) * 16 + 16 ≤ 128 := by omega
  have hfitt : tickLane * 16 + 16 ≤ 128 := by omega
  refine ⟨?_, ?_, ?_⟩
  · rw [storeExtreme, laneBits_writeLane_ne 16 _ _ _ _ h0.symm hfit0,
      laneBits_writeLane_ne 16 _ _ _ _ (Nat.succ_ne_self at0) hfit0, laneBits_writeLane_self 16 _ _ _ hfit0]
  · rw [storeExtreme, laneBits_writeLane_ne 16 _ _ _ _ h1.symm hfit1, laneBits_writeLane_self 16 _ _ _ hfit1]
  · rw [storeExtreme, laneBits_writeLane_self 16 _ _ _ hfitt, BitVec.ofInt_natCast, BitVec.ofNat_toNat,
      BitVec.setWidth_eq]

/-- The best sample is stored where it is better than the stored extreme. -/
theorem keepExtreme_stored {at0 tickLane i : Nat} {stored : Int} (hat : at0 + 1 < 8) (htick : tickLane < 8)
    (h0 : at0 ≠ tickLane) (h1 : at0 + 1 ≠ tickLane) (hi : i < f.lanes) (hon : lanes.getLsbD i = true)
    (hstored : better (readLane f.signed f.width i data) stored = true)
    (hbest : ∀ j, j < f.lanes → lanes.getLsbD j = true →
      better (readLane f.signed f.width j data) (readLane f.signed f.width i data) = false)
    (hfirst : ∀ j < i, j < f.lanes → lanes.getLsbD j = true →
      better (readLane f.signed f.width i data) (readLane f.signed f.width j data) = true) :
    let kept := keepExtreme better at0 tickLane tick (samplesOf f lanes data) stored l
    laneBits 16 at0 kept = BitVec.ofInt 16 (readLane f.signed f.width i data) ∧
    laneBits 16 (at0 + 1) kept = BitVec.ofInt 16 i ∧ laneBits 16 tickLane kept = tick.extractLsb' 0 16 := by
  intro kept
  obtain ⟨xs, ys, hsplit, hbelow⟩ := samplesOf_split (data := data) hi hon
  have hmem {y : Sample} (hy : y ∈ xs ++ (i, readLane f.signed f.width i data) :: ys) :=
    mem_samplesOf.1 (hsplit ▸ hy)
  have hpick : pickSample better (samplesOf f lanes data) = some (i, readLane f.signed f.width i data) := by
    rw [hsplit]
    refine pickSample_eq (fun y hy => ?_) fun y hy => ?_
    · obtain ⟨hlt, hyon, hval⟩ := hmem (List.mem_append_left _ hy)
      rw [hval]
      exact hfirst y.1 (hbelow y hy) hlt hyon
    · obtain ⟨hlt, hyon, hval⟩ := hmem (List.mem_append_right _ (List.mem_cons_of_mem _ hy))
      rw [hval]
      exact hbest y.1 hlt hyon
  have hkept : kept = storeExtreme at0 tickLane tick (i, readLane f.signed f.width i data) l := by
    simp only [kept, keepExtreme, hpick, hstored, if_true]
  rw [hkept]
  exact storeExtreme_lanes hat htick h0 h1

/-! ### The count (R59) -/

theorem saturate_count (c : Int) (n : Nat) (hc : 0 ≤ c) : saturate false 16 (c + n) = min 65535 (c + n) := by
  have hmin : laneMin false 16 = 0 := rfl
  have hmax : laneMax false 16 = 65535 := rfl
  rw [saturate, hmin, hmax]
  omega

theorem length_samplesOf : (samplesOf f lanes data).length = (List.range f.lanes).countP fun i => lanes.getLsbD i := by
  rw [samplesOf, List.length_map, enabledLanes, List.countP_eq_length_filter]

/-! ### Reading the line back -/

theorem readLane_range (sg : Bool) (w i : Nat) (l : Line) :
    laneMin sg w ≤ readLane sg w i l ∧ readLane sg w i l ≤ laneMax sg w := patternValue_range sg (laneBits w i l)

theorem readLane_congr {sg : Bool} {w i : Nat} {l m : Line} (h : laneBits w i l = laneBits w i m) :
    readLane sg w i l = readLane sg w i m := by
  rw [readLane, h, readLane]

theorem readLane_of_sample {sg : Bool} {i j : Nat} (h : laneBits 16 j l = BitVec.ofInt 16 (readLane sg 16 i data)) :
    readLane sg 16 j l = readLane sg 16 i data := by
  obtain ⟨hlow, hhigh⟩ := readLane_range sg 16 i data
  rw [readLane, h, patternValue_ofInt sg 16 _ (by decide) hlow hhigh]

theorem readLane_of_laneNumber {i j : Nat} (hi : i < 8) (h : laneBits 16 j l = BitVec.ofInt 16 i) :
    readLane false 16 j l = i := by
  have hmin : laneMin false 16 = 0 := rfl
  have hmax : laneMax false 16 = 65535 := rfl
  rw [readLane, h, patternValue_ofInt false 16 _ (by decide) (by omega) (by omega)]

section

variable (hwidth : f.width = 16) (hlanes : f.lanes = 8)

include hwidth hlanes

/-- The best of the 16-bit samples, its lane and the tick, where it is better than the stored extreme. -/
theorem keepExtreme_sample {at0 tickLane i : Nat} {stored : Int} (hat : at0 + 1 < 8) (htick : tickLane < 8)
    (h0 : at0 ≠ tickLane) (h1 : at0 + 1 ≠ tickLane) (hi : i < 8 ∧ lanes.getLsbD i = true)
    (hstored : better (readLane f.signed 16 i data) stored = true)
    (hbest : ∀ j, j < 8 ∧ lanes.getLsbD j = true →
      better (readLane f.signed 16 j data) (readLane f.signed 16 i data) = false)
    (hfirst : ∀ j < i, j < 8 ∧ lanes.getLsbD j = true →
      better (readLane f.signed 16 i data) (readLane f.signed 16 j data) = true) :
    let kept := keepExtreme better at0 tickLane tick (samplesOf f lanes data) stored l
    readLane f.signed 16 at0 kept = readLane f.signed 16 i data ∧ readLane false 16 (at0 + 1) kept = i ∧
      laneBits 16 tickLane kept = tick.extractLsb' 0 16 := by
  have hlanesStored := keepExtreme_stored (f := f) (better := better) (tick := tick) (l := l) (data := data)
    (lanes := lanes) (i := i) (stored := stored) hat htick h0 h1 (by rw [hlanes]; exact hi.1) hi.2
    (by rw [hwidth]; exact hstored) (fun j hj hon => by rw [hwidth]; exact hbest j ⟨by omega, hon⟩)
    (fun j hji hj hon => by rw [hwidth]; exact hfirst j hji ⟨by omega, hon⟩)
  rw [hwidth] at hlanesStored
  obtain ⟨hvalue, hlane, hticked⟩ := hlanesStored
  exact ⟨readLane_of_sample hvalue, readLane_of_laneNumber hi.1 hlane, hticked⟩

/-- No sample better than the stored extreme: the line stays. -/
theorem keepExtreme_same {at0 tickLane : Nat} {stored : Int}
    (h : ∀ i, i < 8 ∧ lanes.getLsbD i = true → better (readLane f.signed 16 i data) stored = false) :
    keepExtreme better at0 tickLane tick (samplesOf f lanes data) stored l = l := by
  refine keepExtreme_none fun x hx => ?_
  obtain ⟨hlt, hon, hval⟩ := mem_samplesOf.1 hx
  rw [hval, hwidth]
  exact h x.1 ⟨by omega, hon⟩

end

/-- Settles O55. -/
theorem extremeKeepsTheLeastAndGreatest : Obligations.ExtremeKeepsTheLeastAndGreatest := by
  intro r tick lanes data copy hf hformat sg sample enabled new
  obtain ⟨hwidth, hlanes⟩ : r.format.width = 16 ∧ r.format.lanes = 8 := by
    cases hform : r.format with
    | u32 => exact absurd hform hformat
    | u16 | s16 => exact ⟨rfl, rfl⟩
  let least := keepExtreme (fun a b => decide (a < b)) 0 5 tick (samplesOf r.format lanes data)
    (readLane r.format.signed 16 0 copy) copy
  let both := keepExtreme (fun a b => decide (b < a)) 2 6 tick (samplesOf r.format lanes data)
    (readLane r.format.signed 16 2 copy) least
  have hnew : new = writeLane 16 4
      (saturate false 16 (readLane false 16 4 copy + (samplesOf r.format lanes data).length)) both := by
    simp only [new, WindowRecord.update, hf]
    exact extremeUpdate_eq
  have hboth {j : Nat} (hj : j < 8) (h4 : 4 ≠ j) : laneBits 16 j new = laneBits 16 j both := by
    rw [hnew, laneBits_writeLane_ne 16 _ _ _ _ h4 (by omega)]
  have hleast {j : Nat} (hj : j < 8) (h2 : 2 ≠ j) (h3 : 3 ≠ j) (h4 : 4 ≠ j) (h6 : 6 ≠ j) :
      laneBits 16 j new = laneBits 16 j least := by
    rw [hboth hj h4]
    exact keepExtreme_other hj h2 h3 h6
  have hcopy {j : Nat} (hj : j < 8) (h0 : 0 ≠ j) (h1 : 1 ≠ j) (h5 : 5 ≠ j) :
      laneBits 16 j least = laneBits 16 j copy := keepExtreme_other hj h0 h1 h5
  refine ⟨fun i hi hbelow hall hfirst => ?_, fun hnone => ?_, fun i hi habove hall hfirst => ?_,
    fun hnone => ?_, ?_, ?_⟩
  · obtain ⟨hvalue, hlane, htick⟩ := keepExtreme_sample (better := fun a b => decide (a < b)) (tick := tick) (l := copy)
      hwidth hlanes (at0 := 0) (tickLane := 5) (by decide) (by decide) (by decide) (by decide) hi
      (decide_eq_true hbelow) (fun j hj => decide_eq_false (Int.not_lt.2 (hall j hj)))
      (fun j hji hj => decide_eq_true (hfirst j hji hj))
    exact ⟨(readLane_congr (hleast (by decide) (by decide) (by decide) (by decide) (by decide))).trans hvalue,
      (readLane_congr (hleast (by decide) (by decide) (by decide) (by decide) (by decide))).trans hlane,
      (hleast (by decide) (by decide) (by decide) (by decide) (by decide)).trans htick⟩
  · have hsame : least = copy := keepExtreme_same hwidth hlanes fun i hi => decide_eq_false (Int.not_lt.2 (hnone i hi))
    rw [hleast (by decide) (by decide) (by decide) (by decide) (by decide), hleast (by decide) (by decide) (by decide)
      (by decide) (by decide), hleast (by decide) (by decide) (by decide) (by decide) (by decide), hsame]
    exact ⟨rfl, rfl, rfl⟩
  · obtain ⟨hvalue, hlane, htick⟩ := keepExtreme_sample (better := fun a b => decide (b < a)) (tick := tick)
      (l := least) hwidth hlanes (at0 := 2) (tickLane := 6) (by decide) (by decide) (by decide) (by decide) hi
      (decide_eq_true habove) (fun j hj => decide_eq_false (Int.not_lt.2 (hall j hj)))
      (fun j hji hj => decide_eq_true (hfirst j hji hj))
    exact ⟨(readLane_congr (hboth (by decide) (by decide))).trans hvalue,
      (readLane_congr (hboth (by decide) (by decide))).trans hlane, (hboth (by decide) (by decide)).trans htick⟩
  · have hsame : both = least := keepExtreme_same hwidth hlanes fun i hi => decide_eq_false (Int.not_lt.2 (hnone i hi))
    rw [hboth (by decide) (by decide), hboth (by decide) (by decide), hboth (by decide) (by decide), hsame]
    exact ⟨hcopy (by decide) (by decide) (by decide) (by decide), hcopy (by decide) (by decide) (by decide) (by decide),
      hcopy (by decide) (by decide) (by decide) (by decide)⟩
  · obtain ⟨hcount, -⟩ := readLane_range false 16 4 copy
    rw [hnew, readLane_writeLane_self false 16 4 _ _ (by decide) (by decide) (laneMin_le_saturate _ _ _)
      (saturate_le_laneMax _ _ _), saturate_count _ _ hcount, length_samplesOf, hlanes]
  · exact (hleast (by decide) (by decide) (by decide) (by decide) (by decide)).trans
      (hcopy (by decide) (by decide) (by decide) (by decide))

end Sys2Proof.Machine
end
